-- ==== Sys2Proof/Word.lean ====
section
/-! DEFINITION. The values the block moves (00_scope.md R12, R13; 30_encoding.md R66, R84; 20_memory.md R53, R56): SequenceIds,
times, descriptors, logical payloads, wire words, and the seven kinds of Message (00_scope.md R18, 40_codec.md R101). Every value
is an unsigned bit vector of the width the spec gives it, so that sums and differences wrap as R13 says. -/

namespace Sys2Proof

/-- A SequenceId: "5-bit unsigned counter", arithmetic modulo 32 (00_scope.md R10 `SID_W`, R13). -/
abbrev Sid := BitVec 5

/-- A time in milliseconds, `TIME_W` = 32 bits, arithmetic modulo 2^32 (00_scope.md R10, R13; 92 D14). -/
abbrev Time := BitVec 32

/-- An 11-bit message descriptor, `desc[10:8] = type`, `desc[7:0] = pl` (30_encoding.md R84). -/
abbrev Desc := BitVec 11

/-- A 16-bit logical payload `[SequenceId:5][Type:3][Payload:8]` (30_encoding.md R66). -/
abbrev Payload := BitVec 16

/-- A 32-bit wire word, check value over logical payload (20_memory.md R53, 30_encoding.md R65). -/
abbrev WireWord := BitVec 32

/-- The Message of BKB §3 (00_scope.md R18), with the fields and ranges of 30_encoding.md R70 to R76: a value outside a field's
range cannot be written (40_codec.md R101). -/
inductive Message where
  | ack (acked : Sid)
  | error (missing : Sid)
  | press (row : BitVec 4) (col : BitVec 3)
  | release (row : BitVec 4) (col : BitVec 3)
  | hello (sync : Bool)
  | rgbChangeAnim (id : BitVec 8)
  | rgbLayerChange (layer : BitVec 8)
  deriving DecidableEq, Repr

end Sys2Proof
end

