-- ==== Sys2Proof/Config.lean ====
section
/-! DEFINITION. The implementation parameters of 00_scope.md R10. What the source or a decision of the spec fixes is a constant;
the three OPEN values (93_implementation_defined.md section 3) are a record the machine carries, so that a statement about every
state is a statement about every admissible value of them (notes/assumptions/4.md). -/

namespace Sys2Proof

/-- A CRC profile (41_integrity.md R115). -/
structure CrcProfile where
  poly   : BitVec 16
  init   : BitVec 16
  refin  : Bool
  refout : Bool
  xorout : BitVec 16
  deriving DecidableEq, Repr

/-- The OPEN parameters (00_scope.md R10, 93_implementation_defined.md section 3). -/
structure Params where
  crc         : CrcProfile
  ackTimeout  : Time
  linkTimeout : Time
  deriving DecidableEq, Repr

/-- The default profile, "used only for test vectors" (41_integrity.md R115, 92 D8). DESIGN CHOICE, notes/assumptions/4.md: reset takes it. -/
def CrcProfile.ccittFalse : CrcProfile :=
  { poly := 0x1021#16, init := 0xFFFF#16, refin := false, refout := false, xorout := 0x0000#16 }

/-- The defaults of the OPEN parameters (00_scope.md R10; 92 D8, D15, D16). DESIGN CHOICE, notes/assumptions/4.md: reset takes them. -/
def Params.default : Params :=
  { crc := CrcProfile.ccittFalse, ackTimeout := 100#32, linkTimeout := 5000#32 }

namespace Config

/-- `PING_INTERVAL`, 3000 ms (00_scope.md R10). -/
def pingInterval : Time := 3000#32

/-- `WINDOW_CAP` = 32 slots (00_scope.md R10), as the 6-bit value `tw_count` is compared with. -/
def windowCap : BitVec 6 := 32#6

/-- `COPIES - 1` = 1: the copies still to send after the first (00_scope.md R10, 10_state.md R35). -/
def copiesLeft : BitVec 1 := 1#1

/-- `CTRLQ_DEPTH` = 8 entries (00_scope.md R10, 92 D13). -/
def ctrlqDepth : Nat := 8

/-- `AHEAD_MAX` = 15 (00_scope.md R10, 92 D10). -/
def aheadMax : Sid := 15#5

end Config

/-- The constraints of 00_scope.md R11. -/
def Params.ok (p : Params) : Bool :=
  decide (p.ackTimeout < p.linkTimeout) && decide (Config.pingInterval < p.linkTimeout)
    && decide (p.linkTimeout.toNat < 2 ^ 31) && decide (1 ≤ Config.ctrlqDepth)
    && decide (1#5 ≤ Config.aheadMax) && decide (Config.aheadMax ≤ 30#5)

end Sys2Proof
end

