-- ==== Sys2Proof/Syntax.lean ====
section
/-! DEFINITION. The syntax: one constructor for each row of spec/opcode_table.json, in the table's order. The frame16 rows are the
logical payloads of verified frames, FRAME is a wire word, and the host_op rows are the host operations of 30_encoding.md R88.
Every operand has exactly the width the spec gives its field. -/

namespace Sys2Proof

inductive Instr where
  /-- 30_encoding.md R70; `sid` is the header field, which a receiver never reads (R79). -/
  | ack (sid : Sid) (acked : Sid)
  /-- 30_encoding.md R71; `sid` is the header field, which a receiver never reads (R79). -/
  | error (sid : Sid) (missing : Sid)
  /-- 30_encoding.md R72. -/
  | press (sid : Sid) (row : BitVec 4) (col : BitVec 3)
  /-- 30_encoding.md R73. -/
  | release (sid : Sid) (row : BitVec 4) (col : BitVec 3)
  /-- 30_encoding.md R76, R78: `sync` set is a SYNC Hello, clear a ping. -/
  | hello (sid : Sid) (sync : Bool)
  /-- 30_encoding.md R74. -/
  | rgbChangeAnim (sid : Sid) (id : BitVec 8)
  /-- 30_encoding.md R75. -/
  | rgbLayerChange (sid : Sid) (layer : BitVec 8)
  /-- 30_encoding.md R69: tag 7, whatever the other bits. -/
  | reservedTag7 (sid : Sid) (pl : BitVec 8)
  /-- 30_encoding.md R65: `check` is `w[31:16]`, `p16` is `w[15:0]`. -/
  | frame (check : BitVec 16) (p16 : Payload)
  /-- 70_reset_and_hazards.md R230. -/
  | reset (initiator : BitVec 1)
  /-- 42_transmit.md R144. -/
  | tick (now : Time)
  /-- 42_transmit.md R134. -/
  | enqueue (desc : Desc)
  /-- 43_receive.md R165. -/
  | rxWord (w : WireWord)
  /-- 42_transmit.md R151. -/
  | txSlot
  /-- 30_encoding.md R89; the argument is ignored. -/
  | reservedOp5 (arg : BitVec 32)
  /-- 30_encoding.md R89; the argument is ignored. -/
  | reservedOp6 (arg : BitVec 32)
  /-- 30_encoding.md R89; the argument is ignored. -/
  | reservedOp7 (arg : BitVec 32)
  deriving DecidableEq, Repr

end Sys2Proof
end

