-- ==== Sys2Proof/Decode.lean ====
section
/-! DEFINITION. The Frame Codec (40_codec.md: encode R100, R101; decode R103), the command port's numbers (30_encoding.md R88), and
the table decoder and encoder over them. Three kinds of value reach the block, told apart by where they arrive and not by their
bits (notes/assumptions/2.md): a command, a wire word, and the logical payload of a verified frame. -/

namespace Sys2Proof

/-- The typed error of decode: "`DecodeError::UnknownEncoding`" (40_codec.md R103). -/
inductive DecodeError where
  /-- Tag 7 or a non-zero reserved payload bit (30_encoding.md R69, R77). -/
  | unknownEncoding
  deriving DecidableEq, Repr

/-! ### The Frame Codec -/

/-- `tag(m)` (40_codec.md R100; the values of 30_encoding.md R68). -/
def Message.tag : Message → BitVec 3
  | .ack _            => 0#3
  | .error _          => 1#3
  | .press _ _        => 2#3
  | .release _ _      => 3#3
  | .hello _          => 4#3
  | .rgbChangeAnim _  => 5#3
  | .rgbLayerChange _ => 6#3

/-- `pl(m)` (40_codec.md R101). -/
def Message.pl : Message → BitVec 8
  | .ack s              => 0#3 ++ s
  | .error s            => 0#3 ++ s
  | .press r c          => 0#1 ++ r ++ c
  | .release r c        => 0#1 ++ r ++ c
  | .hello b            => 0#7 ++ BitVec.ofBool b
  | .rgbChangeAnim n    => n
  | .rgbLayerChange n   => n

/-- `encode(m, sid)` (40_codec.md R100). -/
def encodePayload (m : Message) (sid : Sid) : Payload :=
  sid ++ m.tag ++ m.pl

/-- The message descriptor `desc(m) = encode(m, 0)[10:0]` (30_encoding.md R84). -/
def Message.desc (m : Message) : Desc :=
  (encodePayload m 0#5).extractLsb 10 0

/-- `p16[15:11]` (30_encoding.md R66). -/
def Payload.sid (p16 : Payload) : Sid := p16.extractLsb 15 11

/-- `p16[10:8]` (30_encoding.md R66). -/
def Payload.tag (p16 : Payload) : BitVec 3 := p16.extractLsb 10 8

/-- `p16[7:0]` (30_encoding.md R66). -/
def Payload.pl (p16 : Payload) : BitVec 8 := p16.extractLsb 7 0

/-- The message a tag and an 8-bit payload field spell, if its reserved bits are 0 (40_codec.md R103). -/
def decodeFields (tag : BitVec 3) (pl : BitVec 8) : Except DecodeError Message :=
  match tag.toNat with
  | 0 => if pl.extractLsb 7 5 = 0#3 then .ok (.ack (pl.extractLsb 4 0)) else .error .unknownEncoding
  | 1 => if pl.extractLsb 7 5 = 0#3 then .ok (.error (pl.extractLsb 4 0)) else .error .unknownEncoding
  | 2 => if pl.getLsbD 7 = false then .ok (.press (pl.extractLsb 6 3) (pl.extractLsb 2 0)) else .error .unknownEncoding
  | 3 => if pl.getLsbD 7 = false then .ok (.release (pl.extractLsb 6 3) (pl.extractLsb 2 0)) else .error .unknownEncoding
  | 4 => if pl.extractLsb 7 1 = 0#7 then .ok (.hello (pl.getLsbD 0)) else .error .unknownEncoding
  | 5 => .ok (.rgbChangeAnim pl)
  | 6 => .ok (.rgbLayerChange pl)
  | _ => .error .unknownEncoding

/-- `decode(p16)`: the header sid with the message, or `UnknownEncoding` (40_codec.md R103, R105). -/
def decodePayload (p16 : Payload) : Except DecodeError (Sid × Message) :=
  match decodeFields p16.tag p16.pl with
  | .ok m    => .ok (p16.sid, m)
  | .error e => .error e

/-- The kinds a host may enqueue (40_codec.md R113). -/
def Message.isApplication : Message → Bool
  | .press ..          => true
  | .release ..        => true
  | .rgbChangeAnim ..  => true
  | .rgbLayerChange .. => true
  | .ack ..            => false
  | .error ..          => false
  | .hello ..          => false

/-- A descriptor ENQUEUE takes (30_encoding.md R84, 40_codec.md R113). -/
def Desc.isApplication (desc : Desc) : Bool :=
  match decodePayload (0#5 ++ desc) with
  | .ok (_, m) => m.isApplication
  | .error _   => false

/-! ### The command port and the inputs -/

/-- How many bits the argument of an operation code has (30_encoding.md R88). For the reserved codes the spec says "any, ignored".
DESIGN CHOICE, notes/assumptions/10.md: 32 bits, as wide as the widest argument. -/
def argWidth (opc : BitVec 3) : Nat :=
  match opc.toNat with
  | 0 => 1
  | 1 => 32
  | 2 => 11
  | 3 => 32
  | 4 => 0
  | _ => 32

/-- A numeric command: "a 3-bit `opc` with an argument `arg` whose width depends on the operation" (30_encoding.md R88). -/
structure Command where
  opc : BitVec 3
  arg : BitVec (argWidth opc)
  deriving DecidableEq, Repr

/-- One value presented to the block (notes/assumptions/2.md). -/
inductive Input where
  /-- A numeric command of the host (30_encoding.md R88). -/
  | command (c : Command)
  /-- A word the transport received (60_exceptions.md R214). -/
  | word (w : WireWord)
  /-- The logical payload of a frame the Integrity Engine has verified (40_codec.md R109). -/
  | payload (p16 : Payload)
  deriving DecidableEq, Repr

/-! ### The table decoder and encoder -/

/-- The frame16 row of a decoded message and its header sid. -/
def Instr.ofMessage (sid : Sid) : Message → Instr
  | .ack s            => .ack sid s
  | .error s          => .error sid s
  | .press r c        => .press sid r c
  | .release r c      => .release sid r c
  | .hello b          => .hello sid b
  | .rgbChangeAnim n  => .rgbChangeAnim sid n
  | .rgbLayerChange n => .rgbLayerChange sid n

/-- The frame16 rows of the table: tag 7 is a row of its own (30_encoding.md R69), every other payload is what the codec makes of it. -/
def decodeFrame16 (p16 : Payload) : Except DecodeError Instr :=
  if p16.tag = 7#3 then .ok (.reservedTag7 p16.sid p16.pl)
  else match decodePayload p16 with
    | .ok (sid, m) => .ok (Instr.ofMessage sid m)
    | .error e     => .error e

/-- The host_op rows of the table (30_encoding.md R88, R89): every numeric command is one of the eight. -/
def decodeCommand (c : Command) : Instr :=
  match c.opc.toNat with
  | 0 => .reset (c.arg.setWidth 1)
  | 1 => .tick (c.arg.setWidth 32)
  | 2 => .enqueue (c.arg.setWidth 11)
  | 3 => .rxWord (c.arg.setWidth 32)
  | 4 => .txSlot
  | 5 => .reservedOp5 (c.arg.setWidth 32)
  | 6 => .reservedOp6 (c.arg.setWidth 32)
  | _ => .reservedOp7 (c.arg.setWidth 32)

/-- The instruction an input is. Total: what is no instruction is rejected by name. -/
def decodeInput : Input → Except DecodeError Instr
  | .command c   => .ok (decodeCommand c)
  | .word w      => .ok (.frame (w.extractLsb 31 16) (w.extractLsb 15 0))
  | .payload p16 => decodeFrame16 p16

/-- The input that spells an instruction (30_encoding.md R65, R66, R69 to R76, R88). -/
def encodeInput : Instr → Input
  | .ack sid s            => .payload (encodePayload (.ack s) sid)
  | .error sid s          => .payload (encodePayload (.error s) sid)
  | .press sid r c        => .payload (encodePayload (.press r c) sid)
  | .release sid r c      => .payload (encodePayload (.release r c) sid)
  | .hello sid b          => .payload (encodePayload (.hello b) sid)
  | .rgbChangeAnim sid n  => .payload (encodePayload (.rgbChangeAnim n) sid)
  | .rgbLayerChange sid n => .payload (encodePayload (.rgbLayerChange n) sid)
  | .reservedTag7 sid pl  => .payload (sid ++ 7#3 ++ pl)
  | .frame check p16      => .word (check ++ p16)
  | .reset b              => .command ⟨0#3, b⟩
  | .tick now             => .command ⟨1#3, now⟩
  | .enqueue desc         => .command ⟨2#3, desc⟩
  | .rxWord w             => .command ⟨3#3, w⟩
  | .txSlot               => .command ⟨4#3, 0#0⟩
  | .reservedOp5 arg      => .command ⟨5#3, arg⟩
  | .reservedOp6 arg      => .command ⟨6#3, arg⟩
  | .reservedOp7 arg      => .command ⟨7#3, arg⟩

/-! ### Numbers, as the opcode table numbers bits -/

/-- The input whose bits are `w` in a format of `nbits` bits: a host operation has its code in bits 2..0 and its argument above them
(notes/assumptions/10.md), a logical payload has 16 bits, a wire word 32. No other width is a format of the table. -/
def tableInput (nbits w : Nat) : Option Input :=
  if nbits = 3 ∨ nbits = 8 then
    some (.command ⟨BitVec.ofNat 3 w, BitVec.ofNat _ (w / 8)⟩)
  else if nbits = 16 then some (.payload (BitVec.ofNat 16 w))
  else if nbits = 32 then some (.word (BitVec.ofNat 32 w))
  else none

/-- The instruction the decoder reads from a table word. -/
def decodeTableWord (nbits w : Nat) : Option Instr :=
  match tableInput nbits w with
  | some r =>
    match decodeInput r with
    | .ok i    => some i
    | .error _ => none
  | none => none

/-! ### The rows of spec/opcode_table.json -/

/-- The number an input is, in the numbering of the table (the inverse view of `tableInput`). -/
def Input.bits : Input → Nat
  | .command c   => c.opc.toNat + 8 * c.arg.toNat
  | .word w      => w.toNat
  | .payload p16 => p16.toNat

/-- An instruction's row: its format's width, its mask and its match value, as spec/opcode_table.json has them. -/
def Instr.tableRow : Instr → Nat × Nat × Nat
  | .ack ..            => (16, 0x07E0, 0x0000)
  | .error ..          => (16, 0x07E0, 0x0100)
  | .press ..          => (16, 0x0780, 0x0200)
  | .release ..        => (16, 0x0780, 0x0300)
  | .hello ..          => (16, 0x07FE, 0x0400)
  | .rgbChangeAnim ..  => (16, 0x0700, 0x0500)
  | .rgbLayerChange .. => (16, 0x0700, 0x0600)
  | .reservedTag7 ..   => (16, 0x0700, 0x0700)
  | .frame ..          => (32, 0x00000000, 0x00000000)
  | .reset ..          => (3, 0x7, 0x0)
  | .tick ..           => (3, 0x7, 0x1)
  | .enqueue ..        => (3, 0x7, 0x2)
  | .rxWord ..         => (3, 0x7, 0x3)
  | .txSlot            => (3, 0x7, 0x4)
  | .reservedOp5 ..    => (3, 0x7, 0x5)
  | .reservedOp6 ..    => (3, 0x7, 0x6)
  | .reservedOp7 ..    => (3, 0x7, 0x7)

end Sys2Proof
end

