-- ==== Sys2Proof/Machine/State.lean ====
section
/-! DEFINITION. The state of one endpoint (10_state.md R22: "No other state exists"), and beside it what the model needs to run it as a
machine of steps: the OPEN parameters (notes/assumptions/4.md), the host's operations not yet taken (notes/assumptions/1.md) and the
output ports (notes/assumptions/3.md). There is no memory: the block has no address space (20_memory.md R50). -/

namespace Sys2Proof.Machine

/-- The Link State (10_state.md R23, 44_link.md R185). The numeric value 3 is never written, so it is not represented. -/
inductive LinkState where
  | disconnected
  | handshaking
  | connected
  deriving DecidableEq, Repr

/-- `role` (10_state.md R24): 1 is the handshake initiator, 0 the responder. -/
inductive Role where
  | responder
  | initiator
  deriving DecidableEq, Repr

/-- The kind of a control-queue entry (10_state.md R33): 0 = Ack, 1 = Error. -/
inductive CtrlKind where
  | ack
  | error
  deriving DecidableEq, Repr

/-- An entry of the control queue (10_state.md R33). -/
structure CtrlEntry where
  kind : CtrlKind
  sid  : Sid
  deriving DecidableEq, Repr

/-- A window slot (10_state.md R27). -/
structure Slot where
  msg      : Desc
  timeSent : Time
  pend     : Bool
  deriving DecidableEq, Repr

/-- The tick record (60_exceptions.md R205). -/
structure TickRecord where
  linkTimeout       : Bool := false
  handshakeStarted  : Bool := false
  retransmitsMarked : Nat := 0
  pingEnqueued      : Bool := false
  deriving DecidableEq, Repr

/-- The result of an operation (60_exceptions.md R205). -/
inductive Result where
  /-- RESET's "(none)". -/
  | none
  | tick (r : TickRecord)
  /-- ENQUEUE's `OK(sid)`. -/
  | enqueued (sid : Sid)
  | windowFull
  | linkDown
  | badMessage
  | checksumMismatch
  | unknownEncoding
  | sync
  | ignored
  | ackApplied
  | ackStale
  | errorApplied
  | errorStale
  | accepted
  | duplicate
  | sequenceGap
  /-- TX_SLOT's 32-bit word, `emit_word(w)` (00_scope.md R15). -/
  | word (w : WireWord)
  /-- TX_SLOT's `NONE`. -/
  | nothing
  | illegalOp
  deriving DecidableEq, Repr

/-- What `deliver_key` hands to the keymap collaborator (60_exceptions.md R215). -/
inductive KeyEvent where
  | press (row : BitVec 4) (col : BitVec 3)
  | release (row : BitVec 4) (col : BitVec 3)
  deriving DecidableEq, Repr

/-- What `deliver_rgb` hands to the RGB collaborator (60_exceptions.md R216). -/
inductive RgbEvent where
  | changeAnim (id : BitVec 8)
  | layerChange (layer : BitVec 8)
  deriving DecidableEq, Repr

structure State where
  /-- The OPEN parameters, fixed for the life of the model (10_state.md R22); no operation writes them. -/
  params        : Params
  linkState     : LinkState
  role          : Role
  curTime       : Time
  twBase        : Sid
  slots         : Vector Slot 32
  twCount       : BitVec 6
  rxCursor      : Sid
  /-- Head first: the head is sent next (42_transmit.md R156). -/
  ctrlq         : List CtrlEntry
  ctrlqOverflow : Bool
  outWord       : WireWord
  outLeft       : BitVec 1
  lastTxTime    : Time
  liveRef       : Time
  /-- MODEL: what the host has presented and the block has not yet taken, in the host's order (20_memory.md R60). -/
  pending       : List Input
  /-- MODEL: the result port, the result of the last operation. -/
  result        : Result
  /-- MODEL: the keymap port, what the last operation delivered there. -/
  keyPort       : Option KeyEvent
  /-- MODEL: the RGB port, what the last operation delivered there. -/
  rgbPort       : Option RgbEvent
  deriving DecidableEq, Repr

/-- Why the machine would stop with a fault: never. "No result is fatal. After every result, every operation stays defined and the
block goes on." (60_exceptions.md R207), so there is no constructor and no step faults. Safe: nothing is left out by it. -/
inductive Fault where
  deriving DecidableEq, Repr

/-- Why a step is refused. -/
inductive Refusal where
  /-- An instruction without a meaning. No arm of `exec` raises it. Safe. -/
  | notModelled (mnemonic : String)
  /-- Raised by `step` in a state whose parameters break the constraints of 00_scope.md R11 (93_implementation_defined.md I25: "refuse").
  Safe: the machine stops where the spec gives no configuration. -/
  | badConfiguration
  deriving DecidableEq, Repr

/-- A slot that has never been pushed: `pend` is 0, and `msg` and `time_sent` "hold no value" (10_state.md R22). DESIGN CHOICE,
notes/assumptions/6.md: they are 0, which R230 allows ("A model may set them to any fixed value"). -/
def Slot.unused : Slot := { msg := 0#11, timeSent := 0#32, pend := false }

/-- The machine right after RESET (70_reset_and_hazards.md R230, 10_state.md R22). DESIGN CHOICE, each logged: the RESET argument is 0,
a responder (notes/assumptions/5.md), the parameters are the spec's defaults (notes/assumptions/4.md), the fields that hold no value are 0
(notes/assumptions/6.md, 7.md), and nothing is pending (notes/assumptions/1.md). -/
def State.reset : State :=
  { params        := Params.default
    linkState     := .disconnected
    role          := .responder
    curTime       := 0#32
    twBase        := 0#5
    slots         := Vector.replicate 32 Slot.unused
    twCount       := 0#6
    rxCursor      := 31#5
    ctrlq         := []
    ctrlqOverflow := false
    outWord       := 0#32
    outLeft       := 0#1
    lastTxTime    := 0#32
    liveRef       := 0#32
    pending       := []
    result        := .none
    keyPort       := none
    rgbPort       := none }

/-- The read-only link-state port: 0 Disconnected, 1 Handshaking, 2 Connected (60_exceptions.md R216, 10_state.md R38). -/
def State.linkStatePort (s : State) : BitVec 2 :=
  match s.linkState with
  | .disconnected => 0#2
  | .handshaking  => 1#2
  | .connected    => 2#2

/-- `slot[i]` (00_scope.md R14, 10_state.md R27). -/
def State.slot (s : State) (i : Sid) : Slot :=
  s.slots[i.toNat]'(i.isLt)

end Sys2Proof.Machine
end

