-- ==== Sys2Proof/Machine/Flags.lean ====
section
/-! DEFINITION. The block has no flags or condition codes (10_state.md R41). What its operations test instead stands here, each once: the
window conditions (42_transmit.md R131, R132), the timers (60_exceptions.md R213) and the receive distances (43_receive.md R171). The one sticky
status bit, `ctrlq_overflow`, is set in Ops.lean by `ctrlSchedule`. -/

namespace Sys2Proof.Machine

/-- `elapsed(t) = (cur_time - t) mod 2^TIME_W` (00_scope.md R13, 42_transmit.md R150). -/
def elapsed (s : State) (t : Time) : Time := s.curTime - t

/-- `offset(s) = (s - tw_base) mod 32` (42_transmit.md R131). -/
def offset (s : State) (sid : Sid) : Sid := sid - s.twBase

/-- `outstanding(s) = (tw_count > 0) and (offset(s) < tw_count)` (42_transmit.md R131). -/
def outstanding (s : State) (sid : Sid) : Bool :=
  decide (0#6 < s.twCount) && decide ((offset s sid).setWidth 6 < s.twCount)

/-- `next_sid = (tw_base + tw_count) mod 32` (42_transmit.md R132). -/
def nextSid (s : State) : Sid := s.twBase + s.twCount.setWidth 5

/-- The liveness timeout condition (44_link.md R192), strict. -/
def linkTimedOut (s : State) : Bool :=
  decide (s.linkState ≠ .disconnected) && decide (0#6 < s.twCount)
    && decide (s.params.linkTimeout < elapsed s s.liveRef)

/-- A slot the ack timeout marks (42_transmit.md R146): outstanding, not pending, sent more than `ACK_TIMEOUT` ago. -/
def overdue (s : State) (sid : Sid) : Bool :=
  outstanding s sid && !(s.slot sid).pend && decide (s.params.ackTimeout < elapsed s (s.slot sid).timeSent)

/-- `retransmits_marked` (42_transmit.md R144): how many slots the ack timeout marks. -/
def overdueCount (s : State) : Nat :=
  (List.finRange 32).countP fun i => overdue s (BitVec.ofFin i)

/-- The ping condition (42_transmit.md R147): Connected, idle for `PING_INTERVAL` (not strict), window not full. -/
def pingDue (s : State) : Bool :=
  decide (s.linkState = .connected) && decide (Config.pingInterval ≤ elapsed s s.lastTxTime)
    && decide (s.twCount < Config.windowCap)

/-- The pending slot with the smallest offset from `tw_base`, if any outstanding slot is pending (42_transmit.md R151, R153). -/
def firstPending (s : State) : Option Sid :=
  ((List.range s.twCount.toNat).find? fun k => (s.slot (s.twBase + BitVec.ofNat 5 k)).pend).map
    fun k => s.twBase + BitVec.ofNat 5 k

/-- `expected = (rx_cursor + 1) mod 32` (43_receive.md R171). -/
def expectedSid (s : State) : Sid := s.rxCursor + 1#5

/-- `dist = (sid - expected) mod 32` (43_receive.md R171). -/
def forwardDistance (s : State) (sid : Sid) : Sid := sid - expectedSid s

end Sys2Proof.Machine
end

