-- ==== Sys2Proof/Machine/Integrity.lean ====
section
/-! DEFINITION. The Integrity Engine (41_integrity.md): the CRC over a byte sequence (R115), the checksum of a logical payload
(R116, R117), the frame (R118) and verification (R119). Combinational: it reads no state but the CRC profile it is given. -/

namespace Sys2Proof.Machine

/-- `reflect8` and `reflect16` of R115: the bits of a value in reverse order. -/
def reflect {n : Nat} (v : BitVec n) : BitVec n := v.reverse

/-- One shift of the register (R115): "if reg[15] = 1 then ((reg << 1) mod 2^16) xor P.poly else (reg << 1) mod 2^16". -/
def crcShift (P : CrcProfile) (reg : BitVec 16) : BitVec 16 :=
  if reg.getLsbD 15 then (reg <<< 1) ^^^ P.poly else reg <<< 1

/-- `k` shifts of the register. -/
def crcShifts (P : CrcProfile) : Nat → BitVec 16 → BitVec 16
  | 0, reg     => reg
  | k + 1, reg => crcShifts P k (crcShift P reg)

/-- One byte fed to the register (R115). -/
def crcByte (P : CrcProfile) (reg : BitVec 16) (b : BitVec 8) : BitVec 16 :=
  crcShifts P 8 (reg ^^^ ((if P.refin then reflect b else b).setWidth 16 <<< 8))

/-- `crc16(P, bytes)` (R115). -/
def crc16 (P : CrcProfile) (bytes : List (BitVec 8)) : BitVec 16 :=
  let reg := bytes.foldl (crcByte P) P.init
  (if P.refout then reflect reg else reg) ^^^ P.xorout

/-- `checksum(p16)` (R116): the high byte first, the low byte second (R117). -/
def checksum (P : CrcProfile) (p16 : Payload) : BitVec 16 :=
  crc16 P [p16.extractLsb 15 8, p16.extractLsb 7 0]

/-- `frame(p16) = checksum(p16) : p16` (R118). -/
def frame (P : CrcProfile) (p16 : Payload) : WireWord :=
  checksum P p16 ++ p16

/-- `verify(w) = (w[31:16] = checksum(w[15:0]))` (R119). -/
def verify (P : CrcProfile) (w : WireWord) : Bool :=
  w.extractLsb 31 16 == checksum P (w.extractLsb 15 0)

end Sys2Proof.Machine
end

