-- ==== Sys2Proof/Machine/Operands.lean ====
section
/-! DEFINITION. The operand forms of the operations: the role a RESET argument names, the logical payload of a queued control entry and
of a window slot, and the collaborator port a delivered message goes to. -/

namespace Sys2Proof.Machine

/-- The RESET argument, `1` = initiator (10_state.md R24, 60_exceptions.md R217). -/
def Role.ofArg (initiator : BitVec 1) : Role :=
  if initiator = 1#1 then .initiator else .responder

/-- The message of a control-queue entry (42_transmit.md R151). -/
def CtrlEntry.message (e : CtrlEntry) : Message :=
  match e.kind with
  | .ack   => .ack e.sid
  | .error => .error e.sid

/-- The logical payload of a control-queue entry: "A control frame's header sid is the sid it refers to" (42_transmit.md R158). -/
def CtrlEntry.payload (e : CtrlEntry) : Payload :=
  encodePayload e.message e.sid

/-- The logical payload of window slot `sid`: `p16 = s[4:0] : slot[s].msg` (42_transmit.md R151). -/
def slotPayload (s : State) (sid : Sid) : Payload :=
  sid ++ (s.slot sid).msg

/-- What a message puts on the keymap port (40_codec.md R112, 60_exceptions.md R215). -/
def keyEventOf : Message → Option KeyEvent
  | .press r c         => some (.press r c)
  | .release r c       => some (.release r c)
  | .rgbChangeAnim _   => none
  | .rgbLayerChange _  => none
  | .hello _           => none
  | .ack _             => none
  | .error _           => none

/-- What a message puts on the RGB port (40_codec.md R112, 60_exceptions.md R216). -/
def rgbEventOf : Message → Option RgbEvent
  | .rgbChangeAnim n   => some (.changeAnim n)
  | .rgbLayerChange n  => some (.layerChange n)
  | .press _ _         => none
  | .release _ _       => none
  | .hello _           => none
  | .ack _             => none
  | .error _           => none

end Sys2Proof.Machine
end

