-- ==== Sys2Proof/Machine/Ops.lean ====
section
/-! DEFINITION. The shared operations: the output ports, the Transmit Window (42_transmit.md), the control queue (R157), the link procedures
(44_link.md), the receive path (43_receive.md) and taking an input. The block takes no exceptions and returns from none
(60_exceptions.md R209): in their place stand the result port, and the link reset as the one shared recovery operation. -/

namespace Sys2Proof.Machine

/-! ### The output ports -/

/-- End an operation with a result and no delivery (60_exceptions.md R205: "Every operation returns exactly one result"). -/
def report (r : Result) (s : State) : State :=
  { s with result := r, keyPort := none, rgbPort := none }

/-- `deliver(m)` (43_receive.md R173): an accepted message on its collaborator's port. -/
def deliver (m : Message) (s : State) : State :=
  { s with keyPort := keyEventOf m, rgbPort := rgbEventOf m }

/-- A word or payload that spells no message: "discard, do not crash" (43_receive.md R167). -/
def rejectUndecodable (s : State) : State :=
  report .unknownEncoding s

/-- `cur_time <- now` (42_transmit.md R145). -/
def latchTime (now : Time) (s : State) : State :=
  { s with curTime := now }

/-- `rx_cursor <- sid` (43_receive.md R168, R172). -/
def moveCursor (sid : Sid) (s : State) : State :=
  { s with rxCursor := sid }

/-! ### The Transmit Window -/

/-- Replace slot `i`. -/
def setSlot (i : Sid) (x : Slot) (s : State) : State :=
  { s with slots := s.slots.set i.toNat x i.isLt }

/-- Replace every slot by what `f` makes of its sid and itself. -/
def mapSlots (f : Sid → Slot → Slot) (s : State) : State :=
  { s with slots := s.slots.mapIdx fun i x => f (BitVec.ofNat 5 i) x }

/-- `tw_push(m)` (42_transmit.md R133); the sid it takes is `nextSid`. -/
def twPush (m : Message) (s : State) : State :=
  { setSlot (nextSid s) { msg := m.desc, timeSent := s.curTime, pend := true } s with
    liveRef := if s.twCount = 0#6 then s.curTime else s.liveRef
    twCount := s.twCount + 1#6 }

/-- Empty the window (44_link.md R190, R193). `msg` and `time_sent` then hold no value: they keep their bits, which no rule reads
(DESIGN CHOICE, notes/assumptions/6.md). -/
def clearWindow (s : State) : State :=
  { mapSlots (fun _ x => { x with pend := false }) s with twBase := 0#5, twCount := 0#6 }

/-- Retire every outstanding slot from `tw_base` up to and including `sid`, which is outstanding (42_transmit.md R137, R138). -/
def retireThrough (sid : Sid) (s : State) : State :=
  { mapSlots (fun i x => if offset s i ≤ offset s sid then { x with pend := false } else x) s with
    liveRef := s.curTime
    twBase  := sid + 1#5
    twCount := s.twCount - ((offset s sid).setWidth 6 + 1#6) }

/-- Mark slot `sid` for sending again (42_transmit.md R141). -/
def markPending (sid : Sid) (s : State) : State :=
  setSlot sid { s.slot sid with pend := true } s

/-- Ack-timeout marking (42_transmit.md R146). -/
def markOverdue (s : State) : State :=
  mapSlots (fun i x => if overdue s i then { x with pend := true } else x) s

/-- Push a keepalive ping (42_transmit.md R147, R148). -/
def pushPing (s : State) : State :=
  { twPush (.hello false) s with lastTxTime := s.curTime }

/-! ### The control queue and the output stage -/

/-- `ctrl_schedule(kind, s)` (42_transmit.md R157). -/
def ctrlSchedule (kind : CtrlKind) (sid : Sid) (s : State) : State :=
  { s with
    ctrlq := if s.ctrlq.length < Config.ctrlqDepth then s.ctrlq ++ [{ kind := kind, sid := sid }] else s.ctrlq
    ctrlqOverflow := if s.ctrlq.length < Config.ctrlqDepth then s.ctrlqOverflow else true }

/-- Load a frame into the output stage and hand out its first copy (42_transmit.md R151, R154). -/
def sendFrame (p16 : Payload) (s : State) : State :=
  report (.word (frame s.params.crc p16))
    { s with outWord := frame s.params.crc p16, outLeft := Config.copiesLeft, lastTxTime := s.curTime }

/-! ### The link procedures -/

/-- `handshake_start()` (44_link.md R186). -/
def handshakeStart (s : State) : State :=
  { twPush (.hello true) s with linkState := .handshaking }

/-- `handshake_complete()` (44_link.md R188). -/
def handshakeComplete (s : State) : State :=
  { s with linkState := .connected }

/-- `tx_resync()` (44_link.md R190). -/
def txResync (s : State) : State :=
  { twPush (.hello true) (clearWindow s) with linkState := .handshaking }

/-- `link_reset()` (44_link.md R193). `out_word` then holds no value: it keeps its bits (DESIGN CHOICE, notes/assumptions/7.md). -/
def linkReset (s : State) : State :=
  { clearWindow s with
    rxCursor  := 31#5
    ctrlq     := []
    outLeft   := 0#1
    linkState := .disconnected }

/-- RESET's writes (70_reset_and_hazards.md R230): every field of 10_state.md R22. The parameters are "fixed for the life of the model" (R22)
and the host's pending inputs are not the block's, so both stay (notes/assumptions/1.md, 4.md). The fields that hold no value become 0
(DESIGN CHOICE, notes/assumptions/6.md, 7.md). -/
def resetBlock (initiator : BitVec 1) (s : State) : State :=
  { params        := s.params
    linkState     := .disconnected
    role          := Role.ofArg initiator
    curTime       := 0#32
    twBase        := 0#5
    slots         := Vector.replicate 32 { msg := 0#11, timeSent := 0#32, pend := false }
    twCount       := 0#6
    rxCursor      := 31#5
    ctrlq         := []
    ctrlqOverflow := false
    outWord       := 0#32
    outLeft       := 0#1
    lastTxTime    := 0#32
    liveRef       := 0#32
    pending       := s.pending
    result        := .none
    keyPort       := none
    rgbPort       := none }

/-! ### The receive path -/

/-- `on_ack(s)` (42_transmit.md R137). -/
def onAck (acked : Sid) (s : State) : State :=
  if outstanding s acked then
    report .ackApplied
      (if s.linkState = .handshaking then handshakeComplete (retireThrough acked s) else retireThrough acked s)
  else report .ackStale s

/-- `on_error(s)` (42_transmit.md R141). -/
def onError (missing : Sid) (s : State) : State :=
  if outstanding s missing then report .errorApplied (markPending missing s)
  else report .errorStale s

/-- A verified Ack (43_receive.md R169, R170). -/
def receiveAck (acked : Sid) (s : State) : State :=
  if s.linkState = .disconnected then report .ignored s else onAck acked s

/-- A verified Error (43_receive.md R169, R170). -/
def receiveError (missing : Sid) (s : State) : State :=
  if s.linkState = .disconnected then report .ignored s else onError missing s

/-- A verified SYNC Hello (43_receive.md R167, R168; 44_link.md R190, R191). -/
def receiveSync (sid : Sid) (s : State) : State :=
  if sid = 0#5 then
    let synced := ctrlSchedule .ack 0#5 (moveCursor 0#5 s)
    report .sync (if s.role = .responder then txResync synced else synced)
  else rejectUndecodable s

/-- In-order acceptance (43_receive.md R172). -/
def accept (sid : Sid) (m : Message) (s : State) : State :=
  deliver m (report .accepted (ctrlSchedule .ack sid (moveCursor sid s)))

/-- A verified sequenced frame: the Disconnected gate, then the ordering rules (43_receive.md R169, R171 to R175). -/
def receiveSequenced (sid : Sid) (m : Message) (s : State) : State :=
  if s.linkState = .disconnected then report .ignored s
  else if forwardDistance s sid = 0#5 then accept sid m s
  else if Config.aheadMax < forwardDistance s sid then report .duplicate (ctrlSchedule .ack s.rxCursor s)
  else report .sequenceGap (ctrlSchedule .error (expectedSid s) s)

/-- A verified frame that decodes to `(sid, m)` (43_receive.md R165). -/
def receiveMessage (sid : Sid) (m : Message) (s : State) : State :=
  match m with
  | .ack a            => receiveAck a s
  | .error a          => receiveError a s
  | .hello true       => receiveSync sid s
  | .hello false      => receiveSequenced sid (.hello false) s
  | .press r c        => receiveSequenced sid (.press r c) s
  | .release r c      => receiveSequenced sid (.release r c) s
  | .rgbChangeAnim n  => receiveSequenced sid (.rgbChangeAnim n) s
  | .rgbLayerChange n => receiveSequenced sid (.rgbLayerChange n) s

/-- The stages after verification (43_receive.md R165, R167). -/
def receivePayload (p16 : Payload) (s : State) : State :=
  match decodePayload p16 with
  | .ok (sid, m) => receiveMessage sid m s
  | .error _     => rejectUndecodable s

/-- A received wire word, all stages (43_receive.md R165, R166). -/
def receiveWord (w : WireWord) (s : State) : State :=
  if verify s.params.crc w then receivePayload (w.extractLsb 15 0) s
  else report .checksumMismatch s

/-! ### Taking an input -/

/-- The next input and the state without it; none when the host presents nothing (10_state.md R21). -/
def takeInput (s : State) : Option (Input × State) :=
  match s.pending with
  | []        => none
  | r :: rest => some (r, { s with pending := rest })

/-- Present an input ahead of every other. -/
def presentFirst (r : Input) (s : State) : State :=
  { s with pending := r :: s.pending }

end Sys2Proof.Machine
end

