-- ==== Sys2Proof/Machine/Control.lean ====
section
/-! DEFINITION. The control messages, received (30_encoding.md R70, R71; 43_receive.md R170). -/

namespace Sys2Proof.Machine

/-- Ack: cumulative retirement (43_receive.md R169, R170; 42_transmit.md R137). The header sid is not read (30_encoding.md R79). -/
def execAck (_sid acked : Sid) (s : State) : Host.Outcome State Fault Refusal :=
  .next (receiveAck acked s)

/-- Error: a replay request (43_receive.md R169, R170; 42_transmit.md R141). The header sid is not read (30_encoding.md R79). -/
def execError (_sid missing : Sid) (s : State) : Host.Outcome State Fault Refusal :=
  .next (receiveError missing s)

end Sys2Proof.Machine
end

