-- ==== Sys2Proof/Machine/Link.lean ====
section
/-! DEFINITION. The host operations of the link: RESET (70_reset_and_hazards.md R230) and TICK (42_transmit.md R144). -/

namespace Sys2Proof.Machine

/-- RESET (70_reset_and_hazards.md R230): its result is "none", it emits no word and delivers nothing. -/
def execReset (initiator : BitVec 1) (s : State) : Host.Outcome State Fault Refusal :=
  .next (resetBlock initiator s)

/-- TICK after `cur_time <- now` (42_transmit.md R144): the liveness timeout, else the handshake start, else ack-timeout marking and
then the ping; "A TICK makes at most one link transition and then returns". -/
def tickBody (s : State) : State :=
  if linkTimedOut s then report (.tick { linkTimeout := true }) (linkReset s)
  else if s.linkState = .disconnected then
    if s.role = .initiator then report (.tick { handshakeStarted := true }) (handshakeStart s)
    else report (.tick {}) s
  else if pingDue (markOverdue s) then
    report (.tick { retransmitsMarked := overdueCount s, pingEnqueued := true }) (pushPing (markOverdue s))
  else report (.tick { retransmitsMarked := overdueCount s }) (markOverdue s)

/-- TICK (42_transmit.md R144, R145). -/
def execTick (now : Time) (s : State) : Host.Outcome State Fault Refusal :=
  .next (tickBody (latchTime now s))

end Sys2Proof.Machine
end

