-- ==== Sys2Proof/Machine/Reserved.lean ====
section
/-! DEFINITION. The reserved operation codes: `ILLEGAL_OP`, no state change (30_encoding.md R89). -/

namespace Sys2Proof.Machine

/-- Code 5 (30_encoding.md R89). -/
def execReservedOp5 (_arg : BitVec 32) (s : State) : Host.Outcome State Fault Refusal :=
  .next (report .illegalOp s)

/-- Code 6 (30_encoding.md R89). -/
def execReservedOp6 (_arg : BitVec 32) (s : State) : Host.Outcome State Fault Refusal :=
  .next (report .illegalOp s)

/-- Code 7 (30_encoding.md R89). -/
def execReservedOp7 (_arg : BitVec 32) (s : State) : Host.Outcome State Fault Refusal :=
  .next (report .illegalOp s)

end Sys2Proof.Machine
end

