-- ==== Sys2Proof/Machine/Sequenced.lean ====
section
/-! DEFINITION. The sequenced messages, received (30_encoding.md R72 to R76; 43_receive.md R168, R171 to R175). -/

namespace Sys2Proof.Machine

/-- Press (30_encoding.md R72; 43_receive.md R171 to R175). -/
def execPress (sid : Sid) (row : BitVec 4) (col : BitVec 3) (s : State) : Host.Outcome State Fault Refusal :=
  .next (receiveSequenced sid (.press row col) s)

/-- Release (30_encoding.md R73; 43_receive.md R171 to R175). -/
def execRelease (sid : Sid) (row : BitVec 4) (col : BitVec 3) (s : State) : Host.Outcome State Fault Refusal :=
  .next (receiveSequenced sid (.release row col) s)

/-- Hello: a SYNC Hello resynchronises (43_receive.md R168), a ping is an ordinary sequenced message (30_encoding.md R78). -/
def execHello (sid : Sid) (sync : Bool) (s : State) : Host.Outcome State Fault Refusal :=
  .next (if sync then receiveSync sid s else receiveSequenced sid (.hello false) s)

/-- RgbChangeAnim (30_encoding.md R74; 43_receive.md R171 to R175). -/
def execRgbChangeAnim (sid : Sid) (id : BitVec 8) (s : State) : Host.Outcome State Fault Refusal :=
  .next (receiveSequenced sid (.rgbChangeAnim id) s)

/-- RgbLayerChange (30_encoding.md R75; 43_receive.md R171 to R175). -/
def execRgbLayerChange (sid : Sid) (layer : BitVec 8) (s : State) : Host.Outcome State Fault Refusal :=
  .next (receiveSequenced sid (.rgbLayerChange layer) s)

end Sys2Proof.Machine
end

