-- ==== Sys2Proof/Machine/Window.lean ====
section
/-! DEFINITION. The host operations of the Transmit Window: ENQUEUE (42_transmit.md R134) and TX_SLOT (R151). -/

namespace Sys2Proof.Machine

/-- ENQUEUE, its checks in the order of 42_transmit.md R134 (60_exceptions.md R208). -/
def execEnqueue (desc : Desc) (s : State) : Host.Outcome State Fault Refusal :=
  match decodePayload (0#5 ++ desc) with
  | .error _   => .next (report .badMessage s)
  | .ok (_, m) =>
    if !m.isApplication then .next (report .badMessage s)
    else if s.linkState ≠ .connected then .next (report .linkDown s)
    else if s.twCount = Config.windowCap then .next (report .windowFull s)
    else .next (report (.enqueued (nextSid s)) (twPush m s))

/-- TX_SLOT: the second copy (42_transmit.md R152), else the head of the control queue, else the pending slot with the smallest offset
(R153), else nothing (R155). -/
def execTxSlot (s : State) : Host.Outcome State Fault Refusal :=
  if 0#1 < s.outLeft then .next (report (.word s.outWord) { s with outLeft := s.outLeft - 1#1 })
  else match s.ctrlq with
    | e :: rest => .next (sendFrame e.payload { s with ctrlq := rest })
    | [] =>
      match firstPending s with
      | some sid =>
        .next (sendFrame (slotPayload s sid) (setSlot sid { s.slot sid with pend := false, timeSent := s.curTime } s))
      | none => .next (report .nothing s)

end Sys2Proof.Machine
end

