-- ==== Sys2Proof/Machine/Wire.lean ====
section
/-! DEFINITION. Words and payloads as they arrive: tag 7 (30_encoding.md R69), a wire word (R65) and RX_WORD (43_receive.md R165). -/

namespace Sys2Proof.Machine

/-- RESERVED_TAG7: `UNKNOWN_ENCODING`, no state change, whatever the other bits (30_encoding.md R69, 43_receive.md R167). -/
def execReservedTag7 (_sid : Sid) (_pl : BitVec 8) (s : State) : Host.Outcome State Fault Refusal :=
  .next (rejectUndecodable s)

/-- FRAME: a wire word arrives, check value over logical payload (30_encoding.md R65; 43_receive.md R165 to R167). -/
def execFrame (check : BitVec 16) (p16 : Payload) (s : State) : Host.Outcome State Fault Refusal :=
  .next (receiveWord (check ++ p16) s)

/-- RX_WORD (43_receive.md R165). -/
def execRxWord (w : WireWord) (s : State) : Host.Outcome State Fault Refusal :=
  .next (receiveWord w s)

end Sys2Proof.Machine
end

