-- ==== Sys2Proof/Machine/Dispatch.lean ====
section
/-! DEFINITION. One arm for each row of spec/opcode_table.json. -/

namespace Sys2Proof.Machine

def exec (i : Instr) (s : State) : Host.Outcome State Fault Refusal :=
  match i with
  | .ack sid acked => Sys2Proof.Machine.execAck sid acked s
  | .error sid missing => Sys2Proof.Machine.execError sid missing s
  | .press sid row col => Sys2Proof.Machine.execPress sid row col s
  | .release sid row col => Sys2Proof.Machine.execRelease sid row col s
  | .hello sid sync => Sys2Proof.Machine.execHello sid sync s
  | .rgbChangeAnim sid id => Sys2Proof.Machine.execRgbChangeAnim sid id s
  | .rgbLayerChange sid layer => Sys2Proof.Machine.execRgbLayerChange sid layer s
  | .reservedTag7 sid pl => Sys2Proof.Machine.execReservedTag7 sid pl s
  | .frame check p16 => Sys2Proof.Machine.execFrame check p16 s
  | .reset initiator => Sys2Proof.Machine.execReset initiator s
  | .tick now => Sys2Proof.Machine.execTick now s
  | .enqueue desc => Sys2Proof.Machine.execEnqueue desc s
  | .rxWord w => Sys2Proof.Machine.execRxWord w s
  | .txSlot => Sys2Proof.Machine.execTxSlot s
  | .reservedOp5 arg => Sys2Proof.Machine.execReservedOp5 arg s
  | .reservedOp6 arg => Sys2Proof.Machine.execReservedOp6 arg s
  | .reservedOp7 arg => Sys2Proof.Machine.execReservedOp7 arg s

end Sys2Proof.Machine
end

