-- ==== Sys2Proof/Machine/Step.lean ====
section
/-! DEFINITION. One step: the block takes the next input the host presents and runs it as one atomic operation (20_memory.md R58, R60); with
nothing presented it waits unchanged (10_state.md R21, 60_exceptions.md R222). -/

namespace Sys2Proof.Machine

def step (s : State) : Host.Outcome State Fault Refusal :=
  if s.params.ok then
    match takeInput s with
    | none => .next s
    | some (r, s') =>
      match decodeInput r with
      | .ok i    => exec i s'
      | .error _ => .next (rejectUndecodable s')
  else .refused .badConfiguration

/-- The state with the instruction of a table word presented first (notes/assumptions/1.md); unchanged where `nbits` is no format. -/
def State.withFetchWord (s : State) (nbits w : Nat) : State :=
  match tableInput nbits w with
  | some r => presentFirst r s
  | none   => s

end Sys2Proof.Machine
end

