-- ==== Sys2Proof/Machine/System.lean ====
section
/-! DEFINITION. The two-endpoint system the block lives in (60_exceptions.md R218): two endpoints, each driven by its own host, and one first-in
first-out channel of 32-bit words each way. A word sent is delivered unchanged, delivered altered to any other word, or lost; the
channel never duplicates, reorders or inserts. Which of these happens, and when, is the events' choice (notes/assumptions/11.md). The
machine `core` is one endpoint; this file only composes two of them. -/

namespace Sys2Proof.Machine

/-- An endpoint of the system. -/
inductive Side where
  | a
  | b
  deriving DecidableEq, Repr

/-- The other endpoint. -/
def Side.other : Side → Side
  | .a => .b
  | .b => .a

/-- The two endpoints and the two channels; a channel's head is the oldest word. -/
structure System where
  endA : State
  endB : State
  aToB : List WireWord
  bToA : List WireWord
  deriving DecidableEq, Repr

/-- What can happen to the system (60_exceptions.md R214, R218). -/
inductive SysEvent where
  /-- RESET by an endpoint's host. -/
  | reset (side : Side) (initiator : BitVec 1)
  /-- TICK by an endpoint's host, from its own clock. -/
  | tick (side : Side) (now : Time)
  /-- ENQUEUE by an endpoint's host. -/
  | enqueue (side : Side) (desc : Desc)
  /-- TX_SLOT at an endpoint, whose word, if any, enters its outgoing channel. -/
  | send (side : Side)
  /-- The oldest word on its way to an endpoint arrives unchanged. -/
  | arrive (side : Side)
  /-- The oldest word on its way to an endpoint arrives altered to `w`. -/
  | arriveAltered (side : Side) (w : WireWord)
  /-- The oldest word on its way to an endpoint is lost. -/
  | lose (side : Side)
  deriving DecidableEq, Repr

/-- One endpoint's state. -/
def System.endpoint (y : System) : Side → State
  | .a => y.endA
  | .b => y.endB

/-- The words on their way to an endpoint. -/
def System.incoming (y : System) : Side → List WireWord
  | .a => y.bToA
  | .b => y.aToB

/-- Replace one endpoint's state. -/
def System.setEndpoint (y : System) (side : Side) (s : State) : System :=
  match side with
  | .a => { y with endA := s }
  | .b => { y with endB := s }

/-- Replace the words on their way to an endpoint. -/
def System.setIncoming (y : System) (side : Side) (ws : List WireWord) : System :=
  match side with
  | .a => { y with bToA := ws }
  | .b => { y with aToB := ws }

/-- One operation at one endpoint. No operation faults or is refused (60_exceptions.md R207), so the last case never arises. -/
def System.operate (y : System) (side : Side) (i : Instr) : System :=
  match exec i (y.endpoint side) with
  | .next t    => y.setEndpoint side t
  | .fault _   => y
  | .refused _ => y

/-- The word TX_SLOT handed out, onto the channel to the other endpoint (60_exceptions.md R214). -/
def System.emit (y : System) (side : Side) : System :=
  match (y.endpoint side).result with
  | .word w => y.setIncoming side.other (y.incoming side.other ++ [w])
  | _       => y

/-- One event. An event on an empty channel does nothing: the channel inserts no word. -/
def System.happen (y : System) : SysEvent → System
  | .reset side b     => y.operate side (.reset b)
  | .tick side now    => y.operate side (.tick now)
  | .enqueue side d   => y.operate side (.enqueue d)
  | .send side        => (y.operate side .txSlot).emit side
  | .arrive side      =>
    match y.incoming side with
    | w :: ws => (y.setIncoming side ws).operate side (.rxWord w)
    | []      => y
  | .arriveAltered side w =>
    match y.incoming side with
    | _ :: ws => (y.setIncoming side ws).operate side (.rxWord w)
    | []      => y
  | .lose side        => y.setIncoming side (y.incoming side).tail

/-- A sequence of events, in order. -/
def System.run (y : System) (es : List SysEvent) : System :=
  es.foldl System.happen y

end Sys2Proof.Machine
end

