-- ==== Sys2Proof/WellFormed.lean ====
section
/-! DEFINITION. Which instructions a conforming party produces: a block built to this spec on its wire, and a host built to it on the
command port. The types of Syntax.lean already keep every field in its range (40_codec.md R101), so what is left to check is what
the spec says of whole instructions. An ill-formed instruction is not without meaning: the block receives such words and codes, and
the spec says what it then does; the machine runs them all. -/

namespace Sys2Proof

/-- What a conforming party produces:
a control frame names one sid twice (30_encoding.md R79), a SYNC Hello has sid 0 (R80), no encoder produces tag 7 (R69), a frame carries
its payload's check value (R65), a host enqueues application messages only (40_codec.md R113), and a host uses no reserved code (R89). -/
def Instr.wellFormed (P : CrcProfile) : Instr → Bool
  | .ack sid s          => sid == s
  | .error sid s        => sid == s
  | .press ..           => true
  | .release ..         => true
  | .hello sid sync     => !sync || sid == 0#5
  | .rgbChangeAnim ..   => true
  | .rgbLayerChange ..  => true
  | .reservedTag7 ..    => false
  | .frame check p16    => check == Machine.checksum P p16
  | .reset ..           => true
  | .tick ..            => true
  | .enqueue desc       => desc.isApplication
  | .rxWord ..          => true
  | .txSlot             => true
  | .reservedOp5 ..     => false
  | .reservedOp6 ..     => false
  | .reservedOp7 ..     => false

end Sys2Proof
end

