-- ==== Sys2Proof/Safety.lean ====
section
/-! DEFINITION. What claims are stated in: the invariants of 10_state.md R42, what makes every word sent a conforming frame, which stored bits
no rule reads, and the outcomes of a step. -/

namespace Sys2Proof.Machine

/-- The invariants of 10_state.md R42 (its (4) and (5) hold by the types of `outLeft` and `linkState`), the parameters' constraints (00_scope.md R11),
and what makes them inductive: "every way into Disconnected leaves `tw_base = 0`" (44_link.md R186). -/
structure Inv (s : State) : Prop where
  params_ok         : s.params.ok = true
  count_le          : s.twCount ≤ 32#6
  pend_outstanding  : ∀ i : Sid, (s.slot i).pend = true → outstanding s i = true
  ctrlq_length      : s.ctrlq.length ≤ Config.ctrlqDepth
  disconnected_empty : s.linkState = .disconnected → s.twCount = 0#6 ∧ s.twBase = 0#5
  handshaking_sync  : s.linkState = .handshaking →
    s.twCount ≤ 1#6 ∧ ∀ i : Sid, outstanding s i = true → i = 0#5 ∧ (s.slot i).msg = (Message.hello true).desc

/-- The messages the Transmit Window holds while Connected: the application's and the pings (40_codec.md R113, 42_transmit.md R147). -/
def isWindowData (m : Message) : Bool :=
  m.isApplication || m == .hello false

/-- A word whose payload is a conforming message frame: it verifies (41_integrity.md R119), decodes, and meets 30_encoding.md R79 and R80. -/
def conformingWord (P : CrcProfile) (w : WireWord) : Bool :=
  verify P w && match decodePayload (w.extractLsb 15 0) with
    | .ok (sid, m) => (Instr.ofMessage sid m).wellFormed P
    | .error _     => false

/-- The invariant behind "every word handed out is a conforming frame": `Inv`, what the window holds while Connected, and the output stage. -/
structure TxInv (s : State) : Prop extends Inv s where
  connected_data : s.linkState = .connected → ∀ i : Sid, outstanding s i = true →
    ∃ m : Message, isWindowData m = true ∧ (s.slot i).msg = m.desc
  stage_conforms : s.outLeft ≠ 0#1 → conformingWord s.params.crc s.outWord = true

/-- The block's own state of two machine states is the same (10_state.md R22): "no state changes". -/
structure SameBlock (s t : State) : Prop where
  params        : t.params = s.params
  linkState     : t.linkState = s.linkState
  role          : t.role = s.role
  curTime       : t.curTime = s.curTime
  twBase        : t.twBase = s.twBase
  slots         : t.slots = s.slots
  twCount       : t.twCount = s.twCount
  rxCursor      : t.rxCursor = s.rxCursor
  ctrlq         : t.ctrlq = s.ctrlq
  ctrlqOverflow : t.ctrlqOverflow = s.ctrlqOverflow
  outWord       : t.outWord = s.outWord
  outLeft       : t.outLeft = s.outLeft
  lastTxTime    : t.lastTxTime = s.lastTxTime
  liveRef       : t.liveRef = s.liveRef

/-- No delivery on either collaborator port. -/
def quiet (s : State) : Prop := s.keyPort = none ∧ s.rgbPort = none

/-- The message an instruction brings to the receive path, with its header sid: a frame16 row brings itself, a wire word brings what it decodes to
if it verifies (43_receive.md R165). None for a word that is rejected and for the host's other operations. -/
def received (P : CrcProfile) : Instr → Option (Sid × Message)
  | .ack sid s            => some (sid, .ack s)
  | .error sid s          => some (sid, .error s)
  | .press sid r c        => some (sid, .press r c)
  | .release sid r c      => some (sid, .release r c)
  | .hello sid b          => some (sid, .hello b)
  | .rgbChangeAnim sid n  => some (sid, .rgbChangeAnim n)
  | .rgbLayerChange sid n => some (sid, .rgbLayerChange n)
  | .frame check p16      => if check = checksum P p16 then (decodePayload p16).toOption else none
  | .rxWord w             => if verify P w then (decodePayload (w.extractLsb 15 0)).toOption else none
  | .reservedTag7 ..      => none
  | .reset ..             => none
  | .tick ..              => none
  | .enqueue ..           => none
  | .txSlot               => none
  | .reservedOp5 ..       => none
  | .reservedOp6 ..       => none
  | .reservedOp7 ..       => none

/-- The control queue after an entry is scheduled: 8 entries at most, the new one dropped when full (42_transmit.md R157). -/
def queueAfter (q : List CtrlEntry) (e : CtrlEntry) : List CtrlEntry :=
  if q.length < 8 then q ++ [e] else q

/-- The sticky overflow bit after an entry is scheduled (42_transmit.md R157). -/
def overflowAfter (q : List CtrlEntry) (overflow : Bool) : Bool :=
  if q.length < 8 then overflow else true

/-- How many slots outstanding in `s` are pending in `t` and were not in `s`. -/
def newlyPending (s t : State) : Nat :=
  (List.finRange 32).countP fun k =>
    outstanding s (BitVec.ofFin k) && (t.slot (BitVec.ofFin k)).pend && !(s.slot (BitVec.ofFin k)).pend

/-- One ENQUEUE after another, with the results in order. -/
def enqueueAll : List Desc → State → List Result × State
  | [], s      => ([], s)
  | d :: ds, s =>
    match exec (.enqueue d) s with
    | .next t =>
      let (rs, u) := enqueueAll ds t
      (t.result :: rs, u)
    | .fault _   => ([], s)
    | .refused _ => ([], s)

/-- Two states agree on everything a rule may read. They may differ in `msg` and `time_sent` of a slot that is not outstanding
(10_state.md R27) and in `out_word` of an empty output stage (R35). -/
structure Agree (s t : State) : Prop where
  params        : t.params = s.params
  linkState     : t.linkState = s.linkState
  role          : t.role = s.role
  curTime       : t.curTime = s.curTime
  twBase        : t.twBase = s.twBase
  twCount       : t.twCount = s.twCount
  rxCursor      : t.rxCursor = s.rxCursor
  ctrlq         : t.ctrlq = s.ctrlq
  ctrlqOverflow : t.ctrlqOverflow = s.ctrlqOverflow
  outLeft       : t.outLeft = s.outLeft
  lastTxTime    : t.lastTxTime = s.lastTxTime
  liveRef       : t.liveRef = s.liveRef
  pending       : t.pending = s.pending
  result        : t.result = s.result
  keyPort       : t.keyPort = s.keyPort
  rgbPort       : t.rgbPort = s.rgbPort
  pend          : ∀ i : Sid, (t.slot i).pend = (s.slot i).pend
  slot          : ∀ i : Sid, outstanding s i = true → t.slot i = s.slot i
  outWord       : s.outLeft ≠ 0#1 → t.outWord = s.outWord

/-- Two steps end alike: both in next states that agree, or both refused for one reason. -/
def OutcomesAgree (o p : Host.Outcome State Fault Refusal) : Prop :=
  match o, p with
  | .next t, .next u       => Agree t u
  | .refused r, .refused q => r = q
  | .fault f, .fault g     => f = g
  | _, _                   => False

end Sys2Proof.Machine
end

