-- ==== Sys2Proof/Certificates/Slice0/Obligations.lean ====
section
/-! DEFINITION. The statements for the provers. Each docstring names the rule of spec/ it formalises. A next state is written as the state before
with the fields the spec says are written; where the spec says a stored field "holds no value" afterwards, the statement says nothing
of it (`slots` and `outWord` are then masked on both sides and described by what the rules give). -/

open Sys2Proof Sys2Proof.Machine

/-! ### The codec and the tables -/

/-- "for every Message `m` with fields in range and every sid `s` in 0..31, `decode(encode(m, s)) = Ok(s, m)`" (40_codec.md R106, which the spec
marks derived). -/
def Obligations.DecodeInvertsEncode : Prop :=
  ∀ (m : Message) (sid : Sid), decodePayload (encodePayload m sid) = .ok (sid, m)

/-- "for every `p16` with `decode(p16) = Ok(s, m)`, `encode(m, s) = p16`" (40_codec.md R107, which the spec marks derived). -/
def Obligations.EncodeInvertsDecode : Prop :=
  ∀ (p16 : Payload) (sid : Sid) (m : Message), decodePayload p16 = .ok (sid, m) → encodePayload m sid = p16

/-- `decode(p16)`, tag by tag, with its reserved bits (40_codec.md R103). -/
def Obligations.DecodeByTag : Prop :=
  ∀ p16 : Payload,
    let sid : Sid := p16.extractLsb 15 11
    let tag : BitVec 3 := p16.extractLsb 10 8
    let pl : BitVec 8 := p16.extractLsb 7 0
    (tag = 0 → decodePayload p16 =
      if pl.extractLsb 7 5 = 0 then .ok (sid, .ack (pl.extractLsb 4 0)) else .error .unknownEncoding) ∧
    (tag = 1 → decodePayload p16 =
      if pl.extractLsb 7 5 = 0 then .ok (sid, .error (pl.extractLsb 4 0)) else .error .unknownEncoding) ∧
    (tag = 2 → decodePayload p16 =
      if pl.extractLsb 7 7 = 0 then .ok (sid, .press (pl.extractLsb 6 3) (pl.extractLsb 2 0)) else .error .unknownEncoding) ∧
    (tag = 3 → decodePayload p16 =
      if pl.extractLsb 7 7 = 0 then .ok (sid, .release (pl.extractLsb 6 3) (pl.extractLsb 2 0)) else .error .unknownEncoding) ∧
    (tag = 4 → decodePayload p16 =
      if pl.extractLsb 7 1 = 0 then .ok (sid, .hello (pl.getLsbD 0)) else .error .unknownEncoding) ∧
    (tag = 5 → decodePayload p16 = .ok (sid, .rgbChangeAnim pl)) ∧
    (tag = 6 → decodePayload p16 = .ok (sid, .rgbLayerChange pl)) ∧
    (tag = 7 → decodePayload p16 = .error .unknownEncoding)

/-- Every instruction of the table, with every operand at every value, is what its own encoding decodes to (30_encoding.md R65 to R76, R88, R89). -/
def Obligations.TableDecodeInvertsEncode : Prop :=
  ∀ i : Instr, decodeInput (encodeInput i) = .ok i

/-- No input decodes to an instruction that is encoded otherwise: no bit of an accepted input is dropped. -/
def Obligations.TableEncodeInvertsDecode : Prop :=
  ∀ (r : Input) (i : Instr), decodeInput r = .ok i → encodeInput i = r

/-- A 16-bit payload is an instruction exactly if it matches a frame16 row of spec/opcode_table.json, and then one of a frame16 row it matches. That
tag 7, which the codec does not decode (30_encoding.md R69), is an instruction at all is the table's row, run as notes/assumptions/2.md says. -/
def Obligations.PayloadDecodesByItsTableRow : Prop :=
  ∀ p16 : Payload,
    (∀ i : Instr, decodeInput (.payload p16) = .ok i →
      i.tableRow.1 = 16 ∧ p16.toNat &&& i.tableRow.2.1 = i.tableRow.2.2) ∧
    ((∃ i : Instr, decodeInput (.payload p16) = .ok i) ↔
      ∃ row ∈ [(0x07E0, 0x0000), (0x07E0, 0x0100), (0x0780, 0x0200), (0x0780, 0x0300), (0x07FE, 0x0400),
        (0x0700, 0x0500), (0x0700, 0x0600), (0x0700, 0x0700)], p16.toNat &&& row.1 = row.2)

/-- Payloads and a wire word written out from the spec's encodings (30_encoding.md R65 to R76) decode to the instructions they stand for, and so do three
commands. The commands' codes are R88's and R89's; that the code stands in bits 2..0 of a byte and the argument above it is the model's choice
(notes/assumptions/10.md). A sanity statement. -/
def Obligations.SpecWordsDecode : Prop :=
  decodeTableWord 16 0b0011100000000111 = some (.ack 7 7) ∧
  decodeTableWord 16 0b0001000100000010 = some (.error 2 2) ∧
  decodeTableWord 16 0b0011101000010101 = some (.press 7 2 5) ∧
  decodeTableWord 16 0b1111101101111111 = some (.release 31 15 7) ∧
  decodeTableWord 16 0b0000010000000001 = some (.hello 0 true) ∧
  decodeTableWord 16 0b0001110111111111 = some (.rgbChangeAnim 3 255) ∧
  decodeTableWord 16 0b1111111010100101 = some (.rgbLayerChange 31 165) ∧
  decodeTableWord 16 0b0000011100100000 = some (.reservedTag7 0 0x20) ∧
  decodeTableWord 16 0b0000000000100000 = none ∧
  decodeTableWord 32 0xB5C53A15 = some (.frame 0xB5C5 0x3A15) ∧
  decodeTableWord 8 0b00001000 = some (.reset 1) ∧
  decodeTableWord 8 0b00000100 = some .txSlot ∧
  decodeTableWord 8 0b00000101 = some (.reservedOp5 0)

/-! ### The Integrity Engine -/

/-- `frame` puts the check value in bits 31..16 and the payload in bits 15..0, and a word verifies exactly if it is the frame of its own payload
(41_integrity.md R118, R119), for every CRC profile. -/
def Obligations.VerifyAcceptsExactlyFrames : Prop :=
  ∀ (P : CrcProfile) (w : WireWord),
    ((frame P (w.extractLsb 15 0)).extractLsb 31 16 = checksum P (w.extractLsb 15 0)) ∧
    ((frame P (w.extractLsb 15 0)).extractLsb 15 0 = w.extractLsb 15 0) ∧
    (verify P w = true ↔ w = frame P (w.extractLsb 15 0))

/-- "Single-bit corruption is always detected" (41_integrity.md R124, which the spec marks derived, and in part from general knowledge), for every
profile "whose polynomial has more than one term": beside `x^16`, which `poly` leaves out, at least one. -/
def Obligations.SingleBitFlipIsDetected : Prop :=
  ∀ (P : CrcProfile), P.poly ≠ 0 → ∀ (p16 : Payload) (k : Nat), k < 32 →
    verify P (frame P p16 ^^^ BitVec.twoPow 32 k) = false

/-! ### The step -/

/-- The next input, if it decodes, is run: a step is `exec` of it on the state without it (20_memory.md R58, R60). -/
def Obligations.StepRunsDecodedInstruction : Prop :=
  ∀ (s : State) (r : Input) (rest : List Input) (i : Instr),
    s.params.ok = true → s.pending = r :: rest → decodeInput r = .ok i → step s = exec i { s with pending := rest }

/-- A payload that spells no message is discarded with `UNKNOWN_ENCODING` and no state change (43_receive.md R167). -/
def Obligations.StepDiscardsUndecodablePayload : Prop :=
  ∀ (s : State) (p16 : Payload) (rest : List Input),
    s.params.ok = true → s.pending = .payload p16 :: rest → decodePayload p16 = .error .unknownEncoding →
    step s = .next { s with pending := rest, result := .unknownEncoding, keyPort := none, rgbPort := none }

/-- With no operation presented the block waits unchanged (10_state.md R21, 60_exceptions.md R222). -/
def Obligations.StepWaitsForTheHost : Prop :=
  ∀ s : State, s.params.ok = true → s.pending = [] → step s = .next s

/-- "No result is fatal": every step has a next state, except where the parameters break 00_scope.md R11 (60_exceptions.md R207). -/
def Obligations.StepAlwaysGoesOn : Prop :=
  ∀ s : State, (s.params.ok = true ∧ ∃ t, step s = .next t) ∨ (s.params.ok = false ∧ step s = .refused .badConfiguration)

/-- A table word placed by `withFetchWord` is run by the very next step (notes/assumptions/1.md). -/
def Obligations.PlacedWordRunsNext : Prop :=
  ∀ (s : State) (nbits w : Nat) (i : Instr), s.params.ok = true → decodeTableWord nbits w = some i →
    step (s.withFetchWord nbits w) = exec i s

/-! ### RESET -/

/-- RESET sets every field of the block, whatever came before (70_reset_and_hazards.md R230). The values of `slot[i].msg`, `slot[i].time_sent` and
`out_word` are unspecified there, and nothing is said of them here. -/
def Obligations.ResetSetsEveryField : Prop :=
  ∀ (initiator : BitVec 1) (s : State), ∃ t, exec (.reset initiator) s = .next t ∧
    t.role = (if initiator = 1 then .initiator else .responder) ∧ t.linkState = .disconnected ∧ t.curTime = 0 ∧
    t.twBase = 0 ∧ t.twCount = 0 ∧ (∀ i : Sid, (t.slot i).pend = false) ∧ t.rxCursor = 31 ∧ t.ctrlq = [] ∧
    t.ctrlqOverflow = false ∧ t.outLeft = 0 ∧ t.lastTxTime = 0 ∧ t.liveRef = 0 ∧
    t.params = s.params ∧ t.pending = s.pending ∧ t.result = .none ∧ t.keyPort = none ∧ t.rgbPort = none

/-- `State.reset` is what RESET leaves. The argument 0 and the default parameters are the model's choices (notes/assumptions/4.md, 5.md). -/
def Obligations.ResetStateIsAfterReset : Prop :=
  ∀ s : State, s.params = Params.default → s.pending = [] →
    ∃ t, exec (.reset 0) s = .next t ∧ Agree State.reset t

/-! ### TICK -/

/-- A TICK that finds the liveness timeout resets the link and does nothing else (44_link.md R192, R193; 42_transmit.md R144). -/
def Obligations.TickTimesOutTheLink : Prop :=
  ∀ (now : Time) (s : State), s.linkState ≠ .disconnected → 0 < s.twCount → s.params.linkTimeout < now - s.liveRef →
    ∃ t, exec (.tick now) s = .next t ∧ (∀ i : Sid, (t.slot i).pend = false) ∧
      { t with slots := s.slots, outWord := s.outWord } =
        { s with curTime := now, twBase := 0, twCount := 0, rxCursor := 31, ctrlq := [], outLeft := 0, linkState := .disconnected,
                 result := .tick { linkTimeout := true }, keyPort := none, rgbPort := none }

/-- A TICK on a Disconnected initiator pushes the SYNC Hello at sid 0 and enters Handshaking (44_link.md R186). -/
def Obligations.TickStartsTheHandshake : Prop :=
  ∀ (now : Time) (s : State), s.linkState = .disconnected → s.role = .initiator → s.twBase = 0 → s.twCount = 0 →
    ∃ t, exec (.tick now) s = .next t ∧
      t.slot 0 = { msg := 0x401, timeSent := now, pend := true } ∧ (∀ i : Sid, i ≠ 0 → t.slot i = s.slot i) ∧
      { t with slots := s.slots } =
        { s with curTime := now, twCount := 1, liveRef := now, linkState := .handshaking,
                 result := .tick { handshakeStarted := true }, keyPort := none, rgbPort := none }

/-- A TICK on a Disconnected responder changes only `cur_time` (42_transmit.md R144, 44_link.md R187). -/
def Obligations.TickOnWaitingResponder : Prop :=
  ∀ (now : Time) (s : State), s.linkState = .disconnected → s.role = .responder →
    exec (.tick now) s = .next { s with curTime := now, result := .tick {}, keyPort := none, rgbPort := none }

/-- With the link up and no timeout, a TICK marks exactly the outstanding slots that were sent more than `ACK_TIMEOUT` ago and are not pending, counts
them, and where no ping is due changes nothing else (42_transmit.md R144, R146). -/
def Obligations.TickMarksOverdueSlots : Prop :=
  ∀ (now : Time) (s : State), s.linkState ≠ .disconnected →
    (s.twCount = 0 ∨ now - s.liveRef ≤ s.params.linkTimeout) →
    (s.linkState = .handshaking ∨ now - s.lastTxTime < 3000 ∨ 32 ≤ s.twCount) →
    ∃ t, exec (.tick now) s = .next t ∧
      (∀ i : Sid, t.slot i =
        if outstanding s i = true ∧ (s.slot i).pend = false ∧ s.params.ackTimeout < now - (s.slot i).timeSent
        then { s.slot i with pend := true } else s.slot i) ∧
      { t with slots := s.slots } =
        { s with curTime := now, keyPort := none, rgbPort := none,
                 result := .tick { retransmitsMarked := newlyPending s t } }

/-- In Connected, idle for 3000 ms with room in the window, a TICK also pushes a ping at the next sid and records the time (42_transmit.md R144, R147,
R148). -/
def Obligations.TickPushesThePing : Prop :=
  ∀ (now : Time) (s : State), s.linkState = .connected → (s.twCount = 0 ∨ now - s.liveRef ≤ s.params.linkTimeout) →
    3000 ≤ now - s.lastTxTime → s.twCount < 32 →
    ∃ t, exec (.tick now) s = .next t ∧
      t.slot (s.twBase + s.twCount.setWidth 5) = { msg := 0x400, timeSent := now, pend := true } ∧
      (∀ i : Sid, i ≠ s.twBase + s.twCount.setWidth 5 → t.slot i =
        if outstanding s i = true ∧ (s.slot i).pend = false ∧ s.params.ackTimeout < now - (s.slot i).timeSent
        then { s.slot i with pend := true } else s.slot i) ∧
      { t with slots := s.slots } =
        { s with curTime := now, twCount := s.twCount + 1, lastTxTime := now,
                 liveRef := if s.twCount = 0 then now else s.liveRef, keyPort := none, rgbPort := none,
                 result := .tick { pingEnqueued := true, retransmitsMarked := newlyPending s t } }

/-! ### ENQUEUE and TX_SLOT -/

/-- ENQUEUE, its checks in order, and the push (42_transmit.md R133, R134). -/
def Obligations.EnqueueInOrder : Prop :=
  ∀ (desc : Desc) (s : State), ∃ t, exec (.enqueue desc) s = .next t ∧
    if desc.isApplication = false then t = { s with result := .badMessage, keyPort := none, rgbPort := none }
    else if s.linkState ≠ .connected then t = { s with result := .linkDown, keyPort := none, rgbPort := none }
    else if s.twCount = 32 then t = { s with result := .windowFull, keyPort := none, rgbPort := none }
    else
      let sid := s.twBase + s.twCount.setWidth 5
      t.slot sid = { msg := desc, timeSent := s.curTime, pend := true } ∧ (∀ i : Sid, i ≠ sid → t.slot i = s.slot i) ∧
      { t with slots := s.slots } =
        { s with twCount := s.twCount + 1, liveRef := if s.twCount = 0 then s.curTime else s.liveRef,
                 result := .enqueued sid, keyPort := none, rgbPort := none }

/-- The second copy: TX_SLOT hands out the word in the output stage again and nothing else changes (42_transmit.md R152). -/
def Obligations.TxSlotSendsSecondCopy : Prop :=
  ∀ s : State, s.outLeft = 1 → ∃ t, exec .txSlot s = .next t ∧
    { t with outWord := s.outWord } = { s with outLeft := 0, result := .word s.outWord, keyPort := none, rgbPort := none }

/-- With the output stage empty, the head of the control queue goes first, its header sid the sid it refers to (42_transmit.md R151, R153, R154, R158). -/
def Obligations.TxSlotSendsControlFirst : Prop :=
  ∀ (s : State) (e : CtrlEntry) (rest : List CtrlEntry), s.outLeft = 0 → s.ctrlq = e :: rest →
    let p16 : Payload := match e.kind with
      | .ack   => encodePayload (.ack e.sid) e.sid
      | .error => encodePayload (.error e.sid) e.sid
    exec .txSlot s = .next { s with ctrlq := rest, outWord := frame s.params.crc p16, outLeft := 1, lastTxTime := s.curTime,
                                    result := .word (frame s.params.crc p16), keyPort := none, rgbPort := none }

/-- Otherwise the pending slot with the smallest offset from `tw_base` goes, under its own sid, and its sent time is refreshed (42_transmit.md R151, R153,
R154). -/
def Obligations.TxSlotSendsOldestPending : Prop :=
  ∀ (s : State) (k : Nat), s.outLeft = 0 → s.ctrlq = [] → k < s.twCount.toNat →
    (s.slot (s.twBase + BitVec.ofNat 5 k)).pend = true → (∀ j < k, (s.slot (s.twBase + BitVec.ofNat 5 j)).pend = false) →
    let sid : Sid := s.twBase + BitVec.ofNat 5 k
    let w : WireWord := frame s.params.crc (sid ++ (s.slot sid).msg)
    ∃ t, exec .txSlot s = .next t ∧
      t.slot sid = { s.slot sid with pend := false, timeSent := s.curTime } ∧ (∀ i : Sid, i ≠ sid → t.slot i = s.slot i) ∧
      { t with slots := s.slots } =
        { s with outWord := w, outLeft := 1, lastTxTime := s.curTime, result := .word w, keyPort := none, rgbPort := none }

/-- "When the output stage is empty, the control queue is empty and no slot is pending, TX_SLOT returns `NONE` and changes no state" (42_transmit.md
R155). -/
def Obligations.TxSlotWithNothingToSend : Prop :=
  ∀ s : State, s.outLeft = 0 → s.ctrlq = [] → (∀ i : Sid, outstanding s i = true → (s.slot i).pend = false) →
    exec .txSlot s = .next { s with result := .nothing, keyPort := none, rgbPort := none }

/-! ### RX_WORD, FRAME and the message rows: the stages -/

/-- A word that fails verification is discarded with no state change (43_receive.md R166), by RX_WORD and as a FRAME. -/
def Obligations.UnverifiedWordIsDiscarded : Prop :=
  ∀ (w : WireWord) (s : State), w.extractLsb 31 16 ≠ checksum s.params.crc (w.extractLsb 15 0) →
    exec (.rxWord w) s = .next { s with result := .checksumMismatch, keyPort := none, rgbPort := none } ∧
    exec (.frame (w.extractLsb 31 16) (w.extractLsb 15 0)) s =
      .next { s with result := .checksumMismatch, keyPort := none, rgbPort := none }

/-- A verified word whose payload does not decode, or is a SYNC Hello whose sid is not 0, is discarded with no state change (43_receive.md R167), by
RX_WORD and as a FRAME. -/
def Obligations.UndecodableWordIsDiscarded : Prop :=
  ∀ (p16 : Payload) (s : State),
    (decodePayload p16 = .error .unknownEncoding ∨ ∃ sid : Sid, sid ≠ 0 ∧ decodePayload p16 = .ok (sid, .hello true)) →
    exec (.rxWord (frame s.params.crc p16)) s = .next { s with result := .unknownEncoding, keyPort := none, rgbPort := none } ∧
    exec (.frame (checksum s.params.crc p16) p16) s =
      .next { s with result := .unknownEncoding, keyPort := none, rgbPort := none }

/-- RX_WORD and FRAME complete, and run the row of the message their word spells: on the frame of `encode(m, sid)` each ends in the very next state the
frame16 row of `(sid, m)` ends in (43_receive.md R165, 40_codec.md R109). -/
def Obligations.WireWordRunsItsMessageRow : Prop :=
  ∀ (sid : Sid) (m : Message) (s : State), ∃ t,
    exec (.rxWord (frame s.params.crc (encodePayload m sid))) s = .next t ∧
    exec (.frame (checksum s.params.crc (encodePayload m sid)) (encodePayload m sid)) s = .next t ∧
    exec (Instr.ofMessage sid m) s = .next t

/-- Tag 7 does not decode, whatever its other bits, it is discarded with `UNKNOWN_ENCODING` and no state change, and no encoder produces it
(30_encoding.md R69). -/
def Obligations.Tag7IsDiscarded : Prop :=
  (∀ (m : Message) (sid : Sid), (encodePayload m sid).extractLsb 10 8 ≠ 7#3) ∧
  ∀ (sid : Sid) (pl : BitVec 8) (s : State),
    decodePayload (sid ++ 7#3 ++ pl) = .error .unknownEncoding ∧
    exec (.reservedTag7 sid pl) s = .next { s with result := .unknownEncoding, keyPort := none, rgbPort := none } ∧
    exec (.rxWord (frame s.params.crc (sid ++ 7#3 ++ pl))) s = exec (.reservedTag7 sid pl) s

/-- In Disconnected every frame but a SYNC Hello is ignored and no state changes (43_receive.md R169). -/
def Obligations.DisconnectedIgnoresFrames : Prop :=
  ∀ (sid : Sid) (m : Message) (s : State), s.linkState = .disconnected → m ≠ .hello true →
    exec (Instr.ofMessage sid m) s = .next { s with result := .ignored, keyPort := none, rgbPort := none }

/-! ### Ack and Error -/

/-- An Ack of an outstanding sid retires every slot from `tw_base` through it, refreshes the liveness timer and completes a handshake; any other Ack is
stale and changes nothing, the liveness timer included (42_transmit.md R137, R138). The header sid is not read (30_encoding.md R79). -/
def Obligations.AckRetiresCumulatively : Prop :=
  ∀ (sid acked : Sid) (s : State), s.linkState ≠ .disconnected → ∃ t, exec (.ack sid acked) s = .next t ∧
    if outstanding s acked = true then
      t.twCount.toNat = s.twCount.toNat - ((acked - s.twBase).toNat + 1) ∧
      (∀ i : Sid, i - s.twBase ≤ acked - s.twBase → (t.slot i).pend = false) ∧
      (∀ i : Sid, acked - s.twBase < i - s.twBase → t.slot i = s.slot i) ∧
      { t with slots := s.slots, twCount := s.twCount } =
        { s with liveRef := s.curTime, twBase := acked + 1,
                 linkState := if s.linkState = .handshaking then .connected else s.linkState,
                 result := .ackApplied, keyPort := none, rgbPort := none }
    else t = { s with result := .ackStale, keyPort := none, rgbPort := none }

/-- What is outstanding after such an Ack: exactly the outstanding sids beyond the one acknowledged (42_transmit.md R131, R137), while the window holds
at most 32. -/
def Obligations.AckLeavesTheRestOutstanding : Prop :=
  ∀ (sid acked : Sid) (s t : State), s.twCount ≤ 32 → s.linkState ≠ .disconnected → outstanding s acked = true →
    exec (.ack sid acked) s = .next t →
    ∀ i : Sid, outstanding t i = true ↔ (outstanding s i = true ∧ acked - s.twBase < i - s.twBase)

/-- An Error of an outstanding sid marks only that slot, which keeps its message; any other Error changes nothing (42_transmit.md R141). -/
def Obligations.ErrorMarksOnlyItsSlot : Prop :=
  ∀ (sid missing : Sid) (s : State), s.linkState ≠ .disconnected → ∃ t, exec (.error sid missing) s = .next t ∧
    if outstanding s missing = true then
      t.slot missing = { s.slot missing with pend := true } ∧ (∀ i : Sid, i ≠ missing → t.slot i = s.slot i) ∧
      { t with slots := s.slots } = { s with result := .errorApplied, keyPort := none, rgbPort := none }
    else t = { s with result := .errorStale, keyPort := none, rgbPort := none }

/-- The full-window hazard: with 32 outstanding, an Ack of `tw_base - 1`, which means nothing new, retires all 32 (70_reset_and_hazards.md R236, R237, which
the spec marks derived; 93_implementation_defined.md I24: "A model must reproduce it"). -/
def Obligations.FullWindowMisreadsNothingNew : Prop :=
  ∀ (sid : Sid) (s : State), s.linkState = .connected → s.twCount = 32 →
    ∃ t, exec (.ack sid (s.twBase - 1)) s = .next t ∧ t.result = .ackApplied ∧ t.twCount = 0 ∧ t.twBase = s.twBase ∧
      ∀ i : Sid, outstanding t i = false ∧ (t.slot i).pend = false

/-! ### Sequenced messages -/

/-- A Press or Release in order is accepted, delivered on the keymap port and acknowledged (43_receive.md R172, R173; 60_exceptions.md R215). -/
def Obligations.KeyEventsAcceptedInOrder : Prop :=
  ∀ (sid : Sid) (row : BitVec 4) (col : BitVec 3) (s : State), s.linkState ≠ .disconnected → sid = s.rxCursor + 1 →
    exec (.press sid row col) s = .next { s with
      rxCursor := sid, ctrlq := queueAfter s.ctrlq ⟨.ack, sid⟩, ctrlqOverflow := overflowAfter s.ctrlq s.ctrlqOverflow,
      result := .accepted, keyPort := some (.press row col), rgbPort := none } ∧
    exec (.release sid row col) s = .next { s with
      rxCursor := sid, ctrlq := queueAfter s.ctrlq ⟨.ack, sid⟩, ctrlqOverflow := overflowAfter s.ctrlq s.ctrlqOverflow,
      result := .accepted, keyPort := some (.release row col), rgbPort := none }

/-- An RgbChangeAnim or RgbLayerChange in order is accepted, delivered on the RGB port and acknowledged (43_receive.md R172, R173; 60_exceptions.md R216). -/
def Obligations.RgbEventsAcceptedInOrder : Prop :=
  ∀ (sid : Sid) (n : BitVec 8) (s : State), s.linkState ≠ .disconnected → sid = s.rxCursor + 1 →
    exec (.rgbChangeAnim sid n) s = .next { s with
      rxCursor := sid, ctrlq := queueAfter s.ctrlq ⟨.ack, sid⟩, ctrlqOverflow := overflowAfter s.ctrlq s.ctrlqOverflow,
      result := .accepted, keyPort := none, rgbPort := some (.changeAnim n) } ∧
    exec (.rgbLayerChange sid n) s = .next { s with
      rxCursor := sid, ctrlq := queueAfter s.ctrlq ⟨.ack, sid⟩, ctrlqOverflow := overflowAfter s.ctrlq s.ctrlqOverflow,
      result := .accepted, keyPort := none, rgbPort := some (.layerChange n) }

/-- A ping in order is accepted and acknowledged and delivered to no one (43_receive.md R172, R173; 40_codec.md R112). -/
def Obligations.PingAcceptedNotDelivered : Prop :=
  ∀ (sid : Sid) (s : State), s.linkState ≠ .disconnected → sid = s.rxCursor + 1 →
    exec (.hello sid false) s = .next { s with
      rxCursor := sid, ctrlq := queueAfter s.ctrlq ⟨.ack, sid⟩, ctrlqOverflow := overflowAfter s.ctrlq s.ctrlqOverflow,
      result := .accepted, keyPort := none, rgbPort := none }

/-- A sequenced frame whose forward distance is 16 to 31 is a duplicate: `Ack(rx_cursor)` is scheduled again and nothing is delivered (43_receive.md R174).
It covers Press, Release, the ping, RgbChangeAnim and RgbLayerChange. -/
def Obligations.StaleFrameIsReacknowledged : Prop :=
  ∀ (sid : Sid) (m : Message) (s : State), isWindowData m = true → s.linkState ≠ .disconnected →
    16 ≤ (sid - (s.rxCursor + 1)).toNat →
    exec (Instr.ofMessage sid m) s = .next { s with
      ctrlq := queueAfter s.ctrlq ⟨.ack, s.rxCursor⟩, ctrlqOverflow := overflowAfter s.ctrlq s.ctrlqOverflow,
      result := .duplicate, keyPort := none, rgbPort := none }

/-- A sequenced frame whose forward distance is 1 to 15 is a gap: it is discarded and `Error(expected)` is scheduled (43_receive.md R175). It covers
Press, Release, the ping, RgbChangeAnim and RgbLayerChange. -/
def Obligations.GapRequestsReplay : Prop :=
  ∀ (sid : Sid) (m : Message) (s : State), isWindowData m = true → s.linkState ≠ .disconnected →
    1 ≤ (sid - (s.rxCursor + 1)).toNat → (sid - (s.rxCursor + 1)).toNat ≤ 15 →
    exec (Instr.ofMessage sid m) s = .next { s with
      ctrlq := queueAfter s.ctrlq ⟨.error, s.rxCursor + 1⟩, ctrlqOverflow := overflowAfter s.ctrlq s.ctrlqOverflow,
      result := .sequenceGap, keyPort := none, rgbPort := none }

/-- The same frame received twice in a row is delivered once, the first time, unless it is a ping, which is delivered to no one (43_receive.md R173); and
where the queue has room for two, both Acks name it (R180, which the spec marks derived). -/
def Obligations.DuplicateIsDeliveredOnce : Prop :=
  ∀ (sid : Sid) (m : Message) (s t u : State), isWindowData m = true → s.linkState ≠ .disconnected → sid = s.rxCursor + 1 →
    exec (Instr.ofMessage sid m) s = .next t → exec (Instr.ofMessage sid m) t = .next u →
    t.result = .accepted ∧ t.keyPort = keyEventOf m ∧ t.rgbPort = rgbEventOf m ∧
    ((t.keyPort = none ∧ t.rgbPort = none) ↔ m = .hello false) ∧ u.result = .duplicate ∧ u.keyPort = none ∧ u.rgbPort = none ∧ u.rxCursor = sid ∧
    (s.ctrlq.length ≤ 6 → u.ctrlq = s.ctrlq ++ [⟨.ack, sid⟩, ⟨.ack, sid⟩])

/-! ### The SYNC Hello -/

/-- A SYNC Hello at sid 0 on a responder, in any link state: rx resync, then tx resync (43_receive.md R168, 44_link.md R190). -/
def Obligations.SyncHelloOnResponder : Prop :=
  ∀ s : State, s.role = .responder → ∃ t, exec (.hello 0 true) s = .next t ∧
    t.slot 0 = { msg := 0x401, timeSent := s.curTime, pend := true } ∧ (∀ i : Sid, i ≠ 0 → (t.slot i).pend = false) ∧
    { t with slots := s.slots } =
      { s with rxCursor := 0, ctrlq := queueAfter s.ctrlq ⟨.ack, 0⟩, ctrlqOverflow := overflowAfter s.ctrlq s.ctrlqOverflow,
               twBase := 0, twCount := 1, liveRef := s.curTime, linkState := .handshaking,
               result := .sync, keyPort := none, rgbPort := none }

/-- A SYNC Hello at sid 0 on an initiator, in any link state: only the rx resync (44_link.md R191). -/
def Obligations.SyncHelloOnInitiator : Prop :=
  ∀ s : State, s.role = .initiator → exec (.hello 0 true) s = .next { s with
    rxCursor := 0, ctrlq := queueAfter s.ctrlq ⟨.ack, 0⟩, ctrlqOverflow := overflowAfter s.ctrlq s.ctrlqOverflow,
    result := .sync, keyPort := none, rgbPort := none }

/-- A SYNC Hello at any other sid is rejected with no state change, though it decodes (30_encoding.md R80). -/
def Obligations.MisnumberedSyncHelloIsRejected : Prop :=
  ∀ (sid : Sid) (s : State), sid ≠ 0 →
    decodePayload (encodePayload (.hello true) sid) = .ok (sid, .hello true) ∧
    exec (.hello sid true) s = .next { s with result := .unknownEncoding, keyPort := none, rgbPort := none }

/-! ### Reserved codes -/

/-- "Reserved operation codes 5, 6 and 7 change no state and return `ILLEGAL_OP`", whatever their argument, and the numeric codes decode to this
(30_encoding.md R89). -/
def Obligations.ReservedCodesAreIllegal : Prop :=
  ∀ (arg : BitVec 32) (s : State),
    decodeInput (.command ⟨5#3, arg⟩) = .ok (.reservedOp5 arg) ∧
    decodeInput (.command ⟨6#3, arg⟩) = .ok (.reservedOp6 arg) ∧
    decodeInput (.command ⟨7#3, arg⟩) = .ok (.reservedOp7 arg) ∧
    exec (.reservedOp5 arg) s = .next { s with result := .illegalOp, keyPort := none, rgbPort := none } ∧
    exec (.reservedOp6 arg) s = .next { s with result := .illegalOp, keyPort := none, rgbPort := none } ∧
    exec (.reservedOp7 arg) s = .next { s with result := .illegalOp, keyPort := none, rgbPort := none }

/-! ### The whole machine -/

/-- The invariants hold after RESET (10_state.md R42). The reset role and parameters are the model's choices (notes/assumptions/4.md, 5.md). -/
def Obligations.ResetMeetsInvariants : Prop :=
  TxInv State.reset

/-- The invariants of 10_state.md R42 hold after every operation, from every state that meets them. -/
def Obligations.StepKeepsInvariants : Prop :=
  ∀ s t : State, Inv s → step s = .next t → Inv t

/-- Beside them, the window holds only application messages and pings while Connected, and the output stage only conforming frames. -/
def Obligations.StepKeepsTransmitInvariant : Prop :=
  ∀ s t : State, TxInv s → step s = .next t → TxInv t

/-- Every word TX_SLOT hands out verifies, decodes, and is a well-formed frame: a control frame names its sid twice, a SYNC Hello has sid 0, no reserved bit
is set (30_encoding.md R69, R77, R79, R80). -/
def Obligations.EveryWordSentConforms : Prop :=
  ∀ (s t : State) (w : WireWord), TxInv s → exec .txSlot s = .next t → t.result = .word w →
    conformingWord s.params.crc w = true

/-- "The complete transition relation of `link_state`. No other transition exists" (44_link.md R202, which the spec marks derived). -/
def Obligations.LinkChangesOnlyAsListed : Prop :=
  ∀ (i : Instr) (s t : State), Inv s → exec i s = .next t → t.linkState ≠ s.linkState →
    (∃ b, i = .reset b ∧ t.linkState = .disconnected) ∨
    (∃ now, i = .tick now ∧ s.linkState = .disconnected ∧ s.role = .initiator ∧ t.linkState = .handshaking) ∨
    (received s.params.crc i = some (0, .hello true) ∧ s.role = .responder ∧ t.linkState = .handshaking) ∨
    (∃ sid, received s.params.crc i = some (sid, .ack 0) ∧ s.linkState = .handshaking ∧ outstanding s 0 = true ∧
      t.linkState = .connected ∧ t.twCount = 0 ∧ t.twBase = 1) ∨
    (∃ now, i = .tick now ∧ s.linkState ≠ .disconnected ∧ 0 < s.twCount ∧ s.params.linkTimeout < now - s.liveRef ∧
      t.linkState = .disconnected)

/-- Which operation never writes which field (the "no" entries of 10_state.md R39, which the spec marks derived), and no operation writes the parameters (R22). -/
def Obligations.OperationsKeepTheirFields : Prop :=
  ∀ (i : Instr) (s t : State), exec i s = .next t →
    t.params = s.params ∧ t.pending = s.pending ∧
    ((∀ b, i ≠ .reset b) → t.role = s.role ∧
      ((∀ now, i ≠ .tick now) → t.curTime = s.curTime) ∧
      (i ≠ .txSlot → (∀ now, i ≠ .tick now) → t.outLeft = s.outLeft ∧ t.outWord = s.outWord ∧ t.lastTxTime = s.lastTxTime) ∧
      (received s.params.crc i = none → t.ctrlqOverflow = s.ctrlqOverflow ∧
        ((∀ now, i ≠ .tick now) → t.linkState = s.linkState ∧ t.twBase = s.twBase ∧ t.rxCursor = s.rxCursor ∧
          (i ≠ .txSlot → t.ctrlq = s.ctrlq)) ∧
        (i = .txSlot → t.twCount = s.twCount ∧ t.liveRef = s.liveRef)))

/-- A delivery happens only when a frame with the expected sid is accepted, and delivers that frame's message; the cursor then moves past it (60_exceptions.md
R215, R216; 43_receive.md R173). -/
def Obligations.OnlyInOrderFramesAreDelivered : Prop :=
  ∀ (i : Instr) (s t : State), exec i s = .next t → ¬ (t.keyPort = none ∧ t.rgbPort = none) →
    ∃ sid m, received s.params.crc i = some (sid, m) ∧ s.linkState ≠ .disconnected ∧ sid = s.rxCursor + 1 ∧ t.rxCursor = sid ∧
      t.result = .accepted ∧
      ((∃ r c, m = .press r c ∧ t.keyPort = some (.press r c) ∧ t.rgbPort = none) ∨
       (∃ r c, m = .release r c ∧ t.keyPort = some (.release r c) ∧ t.rgbPort = none) ∨
       (∃ n, m = .rgbChangeAnim n ∧ t.keyPort = none ∧ t.rgbPort = some (.changeAnim n)) ∨
       (∃ n, m = .rgbLayerChange n ∧ t.keyPort = none ∧ t.rgbPort = some (.layerChange n)))

/-- Every Ack this receiver schedules names a sid it has accepted, and every Error the sid it expects (43_receive.md R182, which the spec marks derived). -/
def Obligations.ScheduledFeedbackIsTrue : Prop :=
  ∀ (i : Instr) (s t : State) (e : CtrlEntry), exec i s = .next t → e ∈ t.ctrlq →
    e ∈ s.ctrlq ∨ e = ⟨.ack, t.rxCursor⟩ ∨ e = ⟨.error, t.rxCursor + 1⟩

/-- The overflow bit is sticky: only RESET clears it, and it is set only by scheduling into a full queue (10_state.md R34, 42_transmit.md R157). -/
def Obligations.OverflowBitIsSticky : Prop :=
  ∀ (i : Instr) (s t : State), exec i s = .next t →
    (s.ctrlqOverflow = true → (∀ b, i ≠ .reset b) → t.ctrlqOverflow = true) ∧
    (s.ctrlqOverflow = false → t.ctrlqOverflow = true → 8 ≤ s.ctrlq.length ∧ t.ctrlq = s.ctrlq)

/-- "No rule reads `msg` or `time_sent` of a slot that is not outstanding" (10_state.md R27), nor `out_word` of an empty output stage (R35): states that differ
only there step to states that differ only there, with the same results and deliveries. So the values the model gives those bits
(notes/assumptions/6.md, 7.md) show nowhere. -/
def Obligations.UnreadBitsDoNotShow : Prop :=
  ∀ s u : State, Agree s u → OutcomesAgree (step s) (step u)

/-- From a Connected endpoint with an empty window, 32 ENQUEUEs of application messages take the sids from `tw_base` on, and the next one finds the window
full (42_transmit.md R135, which the spec marks derived). -/
def Obligations.WindowTakesExactly32 : Prop :=
  ∀ (ds : List Desc) (d : Desc) (s : State), s.linkState = .connected → s.twCount = 0 → ds.length = 32 →
    (∀ x ∈ d :: ds, Desc.isApplication x = true) →
    (enqueueAll ds s).1 = (List.range 32).map (fun k => Result.enqueued (s.twBase + BitVec.ofNat 5 k)) ∧
    ∃ t, exec (.enqueue d) (enqueueAll ds s).2 = .next t ∧ t.result = .windowFull

/-- The handshake of 44_link.md R203 (which the spec marks derived), between an initiator in Disconnected and a responder in any link state, both with
nothing queued or half sent and one CRC profile, the second copies sent on the way lost: both end Connected, at sid 1 in both directions. -/
def Obligations.HandshakeConnectsBothEnds : Prop :=
  ∀ (a b : State) (now : Time), a.role = .initiator → b.role = .responder → a.params.crc = b.params.crc →
    a.linkState = .disconnected → a.twBase = 0 → a.twCount = 0 → a.ctrlq = [] → a.outLeft = 0 → b.ctrlq = [] → b.outLeft = 0 →
    let y := System.run ⟨a, b, [], []⟩
      [.tick .a now, .send .a, .arrive .b, .send .b, .arrive .a, .send .b, .lose .a, .send .b, .arrive .a,
       .send .a, .lose .b, .send .a, .arrive .b]
    y.endA.linkState = .connected ∧ y.endB.linkState = .connected ∧
    y.endA.twBase = 1 ∧ y.endB.twBase = 1 ∧ y.endA.twCount = 0 ∧ y.endB.twCount = 0 ∧
    y.endA.rxCursor = 0 ∧ y.endB.rxCursor = 0
end

