-- ==== Sys2Proof/Laws/Fields.lean ====
section
/-! SUPPORT. The fields of a logical payload and of a frame, as arithmetic: what concatenation puts in and what extraction takes out
(30_encoding.md R65, R66, R83). -/

namespace Sys2Proof

/-- Concatenation as a number: "`a:b` concatenates, with `a` in the more significant position" (00_scope.md R12). -/
theorem toNat_concat {n m : Nat} (x : BitVec n) (y : BitVec m) : (x ++ y).toNat = x.toNat * 2 ^ m + y.toNat := by
  rw [BitVec.toNat_append, ← Nat.shiftLeft_add_eq_or_of_lt y.isLt, Nat.shiftLeft_eq]

/-- A field `v[hi:lo]` as a number (00_scope.md R12). -/
theorem toNat_field {n : Nat} (v : BitVec n) (hi lo : Nat) :
    (v.extractLsb hi lo).toNat = v.toNat / 2 ^ lo % 2 ^ (hi - lo + 1) := by
  rw [BitVec.extractLsb_toNat, Nat.shiftRight_eq_div_pow]

theorem payload_toNat (sid : Sid) (tag : BitVec 3) (pl : BitVec 8) :
    (sid ++ tag ++ pl : BitVec 16).toNat = sid.toNat * 2048 + tag.toNat * 256 + pl.toNat := by
  refine (toNat_concat (sid ++ tag) pl).trans ?_
  rw [toNat_concat sid tag, Nat.add_mul, Nat.mul_assoc]
  rfl

theorem payload_sid (sid : Sid) (tag : BitVec 3) (pl : BitVec 8) : Payload.sid (sid ++ tag ++ pl) = sid := by
  apply BitVec.eq_of_toNat_eq
  have h1 := toNat_field (n := 16) (sid ++ tag ++ pl) 15 11
  have := sid.isLt
  have := tag.isLt
  have := pl.isLt
  rw [payload_toNat] at h1
  simp only [Payload.sid]
  omega

theorem payload_tag (sid : Sid) (tag : BitVec 3) (pl : BitVec 8) : Payload.tag (sid ++ tag ++ pl) = tag := by
  apply BitVec.eq_of_toNat_eq
  have h1 := toNat_field (n := 16) (sid ++ tag ++ pl) 10 8
  have := sid.isLt
  have := tag.isLt
  have := pl.isLt
  rw [payload_toNat] at h1
  simp only [Payload.tag]
  omega

theorem payload_pl (sid : Sid) (tag : BitVec 3) (pl : BitVec 8) : Payload.pl (sid ++ tag ++ pl) = pl := by
  apply BitVec.eq_of_toNat_eq
  have h1 := toNat_field (n := 16) (sid ++ tag ++ pl) 7 0
  have := sid.isLt
  have := tag.isLt
  have := pl.isLt
  rw [payload_toNat] at h1
  simp only [Payload.pl]
  omega

/-- A payload is its three fields. -/
theorem payload_eq_fields (p16 : Payload) : (p16.sid ++ p16.tag ++ p16.pl : BitVec 16) = p16 := by
  apply BitVec.eq_of_toNat_eq
  have h := payload_toNat p16.sid p16.tag p16.pl
  have h1 : p16.sid.toNat = _ := toNat_field (n := 16) p16 15 11
  have h2 : p16.tag.toNat = _ := toNat_field (n := 16) p16 10 8
  have h3 : p16.pl.toNat = _ := toNat_field (n := 16) p16 7 0
  have := p16.isLt
  omega

/-- A descriptor under sid 0 as a payload (42_transmit.md R134). -/
theorem descriptor_toNat (sid : Sid) (desc : Desc) : (sid ++ desc : BitVec 16).toNat = sid.toNat * 2048 + desc.toNat :=
  toNat_concat sid desc

namespace Machine

theorem frame_toNat (P : CrcProfile) (p16 : Payload) : (frame P p16).toNat = (checksum P p16).toNat * 65536 + p16.toNat :=
  toNat_concat (checksum P p16) p16

/-- The low half of a frame is its payload (41_integrity.md R118). -/
theorem frame_payload (P : CrcProfile) (p16 : Payload) : (frame P p16).extractLsb 15 0 = p16 := by
  apply BitVec.eq_of_toNat_eq
  have h1 := toNat_field (frame P p16) 15 0
  have := p16.isLt
  rw [frame_toNat] at h1
  omega

/-- The high half of a frame is its check value (41_integrity.md R118). -/
theorem frame_check (P : CrcProfile) (p16 : Payload) : (frame P p16).extractLsb 31 16 = checksum P p16 := by
  apply BitVec.eq_of_toNat_eq
  have h1 := toNat_field (frame P p16) 31 16
  have := p16.isLt
  have := (checksum P p16).isLt
  rw [frame_toNat] at h1
  omega

/-- A frame verifies, whatever the profile (41_integrity.md R119). -/
@[simp] theorem verify_frame (P : CrcProfile) (p16 : Payload) : verify P (frame P p16) = true := by
  simp only [verify, frame_payload, frame_check, beq_self_eq_true]

end Machine

end Sys2Proof
end

