-- ==== Sys2Proof/Laws/State.lean ====
section
/-! SUPPORT. What each shared update writes and leaves, one lemma for each field, so that no proof unfolds a record update. The fields that hold
slots, and the two `ctrlSchedule` chooses, have their lemmas in Laws/Ops.lean. -/

namespace Sys2Proof.Machine

/-! ### report -/

@[simp] theorem report_params (r : Result) (s : State) : (report r s).params = s.params := rfl
@[simp] theorem report_linkState (r : Result) (s : State) : (report r s).linkState = s.linkState := rfl
@[simp] theorem report_role (r : Result) (s : State) : (report r s).role = s.role := rfl
@[simp] theorem report_curTime (r : Result) (s : State) : (report r s).curTime = s.curTime := rfl
@[simp] theorem report_twBase (r : Result) (s : State) : (report r s).twBase = s.twBase := rfl
@[simp] theorem report_slots (r : Result) (s : State) : (report r s).slots = s.slots := rfl
@[simp] theorem report_twCount (r : Result) (s : State) : (report r s).twCount = s.twCount := rfl
@[simp] theorem report_rxCursor (r : Result) (s : State) : (report r s).rxCursor = s.rxCursor := rfl
@[simp] theorem report_ctrlq (r : Result) (s : State) : (report r s).ctrlq = s.ctrlq := rfl
@[simp] theorem report_ctrlqOverflow (r : Result) (s : State) : (report r s).ctrlqOverflow = s.ctrlqOverflow := rfl
@[simp] theorem report_outWord (r : Result) (s : State) : (report r s).outWord = s.outWord := rfl
@[simp] theorem report_outLeft (r : Result) (s : State) : (report r s).outLeft = s.outLeft := rfl
@[simp] theorem report_lastTxTime (r : Result) (s : State) : (report r s).lastTxTime = s.lastTxTime := rfl
@[simp] theorem report_liveRef (r : Result) (s : State) : (report r s).liveRef = s.liveRef := rfl
@[simp] theorem report_pending (r : Result) (s : State) : (report r s).pending = s.pending := rfl
@[simp] theorem report_result (r : Result) (s : State) : (report r s).result = r := rfl
@[simp] theorem report_keyPort (r : Result) (s : State) : (report r s).keyPort = none := rfl
@[simp] theorem report_rgbPort (r : Result) (s : State) : (report r s).rgbPort = none := rfl

/-! ### deliver -/

@[simp] theorem deliver_params (m : Message) (s : State) : (deliver m s).params = s.params := rfl
@[simp] theorem deliver_linkState (m : Message) (s : State) : (deliver m s).linkState = s.linkState := rfl
@[simp] theorem deliver_role (m : Message) (s : State) : (deliver m s).role = s.role := rfl
@[simp] theorem deliver_curTime (m : Message) (s : State) : (deliver m s).curTime = s.curTime := rfl
@[simp] theorem deliver_twBase (m : Message) (s : State) : (deliver m s).twBase = s.twBase := rfl
@[simp] theorem deliver_slots (m : Message) (s : State) : (deliver m s).slots = s.slots := rfl
@[simp] theorem deliver_twCount (m : Message) (s : State) : (deliver m s).twCount = s.twCount := rfl
@[simp] theorem deliver_rxCursor (m : Message) (s : State) : (deliver m s).rxCursor = s.rxCursor := rfl
@[simp] theorem deliver_ctrlq (m : Message) (s : State) : (deliver m s).ctrlq = s.ctrlq := rfl
@[simp] theorem deliver_ctrlqOverflow (m : Message) (s : State) : (deliver m s).ctrlqOverflow = s.ctrlqOverflow := rfl
@[simp] theorem deliver_outWord (m : Message) (s : State) : (deliver m s).outWord = s.outWord := rfl
@[simp] theorem deliver_outLeft (m : Message) (s : State) : (deliver m s).outLeft = s.outLeft := rfl
@[simp] theorem deliver_lastTxTime (m : Message) (s : State) : (deliver m s).lastTxTime = s.lastTxTime := rfl
@[simp] theorem deliver_liveRef (m : Message) (s : State) : (deliver m s).liveRef = s.liveRef := rfl
@[simp] theorem deliver_pending (m : Message) (s : State) : (deliver m s).pending = s.pending := rfl
@[simp] theorem deliver_result (m : Message) (s : State) : (deliver m s).result = s.result := rfl
@[simp] theorem deliver_keyPort (m : Message) (s : State) : (deliver m s).keyPort = keyEventOf m := rfl
@[simp] theorem deliver_rgbPort (m : Message) (s : State) : (deliver m s).rgbPort = rgbEventOf m := rfl

/-! ### latchTime -/

@[simp] theorem latchTime_params (now : Time) (s : State) : (latchTime now s).params = s.params := rfl
@[simp] theorem latchTime_linkState (now : Time) (s : State) : (latchTime now s).linkState = s.linkState := rfl
@[simp] theorem latchTime_role (now : Time) (s : State) : (latchTime now s).role = s.role := rfl
@[simp] theorem latchTime_curTime (now : Time) (s : State) : (latchTime now s).curTime = now := rfl
@[simp] theorem latchTime_twBase (now : Time) (s : State) : (latchTime now s).twBase = s.twBase := rfl
@[simp] theorem latchTime_slots (now : Time) (s : State) : (latchTime now s).slots = s.slots := rfl
@[simp] theorem latchTime_twCount (now : Time) (s : State) : (latchTime now s).twCount = s.twCount := rfl
@[simp] theorem latchTime_rxCursor (now : Time) (s : State) : (latchTime now s).rxCursor = s.rxCursor := rfl
@[simp] theorem latchTime_ctrlq (now : Time) (s : State) : (latchTime now s).ctrlq = s.ctrlq := rfl
@[simp] theorem latchTime_ctrlqOverflow (now : Time) (s : State) : (latchTime now s).ctrlqOverflow = s.ctrlqOverflow := rfl
@[simp] theorem latchTime_outWord (now : Time) (s : State) : (latchTime now s).outWord = s.outWord := rfl
@[simp] theorem latchTime_outLeft (now : Time) (s : State) : (latchTime now s).outLeft = s.outLeft := rfl
@[simp] theorem latchTime_lastTxTime (now : Time) (s : State) : (latchTime now s).lastTxTime = s.lastTxTime := rfl
@[simp] theorem latchTime_liveRef (now : Time) (s : State) : (latchTime now s).liveRef = s.liveRef := rfl
@[simp] theorem latchTime_pending (now : Time) (s : State) : (latchTime now s).pending = s.pending := rfl
@[simp] theorem latchTime_result (now : Time) (s : State) : (latchTime now s).result = s.result := rfl
@[simp] theorem latchTime_keyPort (now : Time) (s : State) : (latchTime now s).keyPort = s.keyPort := rfl
@[simp] theorem latchTime_rgbPort (now : Time) (s : State) : (latchTime now s).rgbPort = s.rgbPort := rfl

/-! ### moveCursor -/

@[simp] theorem moveCursor_params (i : Sid) (s : State) : (moveCursor i s).params = s.params := rfl
@[simp] theorem moveCursor_linkState (i : Sid) (s : State) : (moveCursor i s).linkState = s.linkState := rfl
@[simp] theorem moveCursor_role (i : Sid) (s : State) : (moveCursor i s).role = s.role := rfl
@[simp] theorem moveCursor_curTime (i : Sid) (s : State) : (moveCursor i s).curTime = s.curTime := rfl
@[simp] theorem moveCursor_twBase (i : Sid) (s : State) : (moveCursor i s).twBase = s.twBase := rfl
@[simp] theorem moveCursor_slots (i : Sid) (s : State) : (moveCursor i s).slots = s.slots := rfl
@[simp] theorem moveCursor_twCount (i : Sid) (s : State) : (moveCursor i s).twCount = s.twCount := rfl
@[simp] theorem moveCursor_rxCursor (i : Sid) (s : State) : (moveCursor i s).rxCursor = i := rfl
@[simp] theorem moveCursor_ctrlq (i : Sid) (s : State) : (moveCursor i s).ctrlq = s.ctrlq := rfl
@[simp] theorem moveCursor_ctrlqOverflow (i : Sid) (s : State) : (moveCursor i s).ctrlqOverflow = s.ctrlqOverflow := rfl
@[simp] theorem moveCursor_outWord (i : Sid) (s : State) : (moveCursor i s).outWord = s.outWord := rfl
@[simp] theorem moveCursor_outLeft (i : Sid) (s : State) : (moveCursor i s).outLeft = s.outLeft := rfl
@[simp] theorem moveCursor_lastTxTime (i : Sid) (s : State) : (moveCursor i s).lastTxTime = s.lastTxTime := rfl
@[simp] theorem moveCursor_liveRef (i : Sid) (s : State) : (moveCursor i s).liveRef = s.liveRef := rfl
@[simp] theorem moveCursor_pending (i : Sid) (s : State) : (moveCursor i s).pending = s.pending := rfl
@[simp] theorem moveCursor_result (i : Sid) (s : State) : (moveCursor i s).result = s.result := rfl
@[simp] theorem moveCursor_keyPort (i : Sid) (s : State) : (moveCursor i s).keyPort = s.keyPort := rfl
@[simp] theorem moveCursor_rgbPort (i : Sid) (s : State) : (moveCursor i s).rgbPort = s.rgbPort := rfl

/-! ### setSlot -/

@[simp] theorem setSlot_params (i : Sid) (x : Slot) (s : State) : (setSlot i x s).params = s.params := rfl
@[simp] theorem setSlot_linkState (i : Sid) (x : Slot) (s : State) : (setSlot i x s).linkState = s.linkState := rfl
@[simp] theorem setSlot_role (i : Sid) (x : Slot) (s : State) : (setSlot i x s).role = s.role := rfl
@[simp] theorem setSlot_curTime (i : Sid) (x : Slot) (s : State) : (setSlot i x s).curTime = s.curTime := rfl
@[simp] theorem setSlot_twBase (i : Sid) (x : Slot) (s : State) : (setSlot i x s).twBase = s.twBase := rfl
@[simp] theorem setSlot_twCount (i : Sid) (x : Slot) (s : State) : (setSlot i x s).twCount = s.twCount := rfl
@[simp] theorem setSlot_rxCursor (i : Sid) (x : Slot) (s : State) : (setSlot i x s).rxCursor = s.rxCursor := rfl
@[simp] theorem setSlot_ctrlq (i : Sid) (x : Slot) (s : State) : (setSlot i x s).ctrlq = s.ctrlq := rfl
@[simp] theorem setSlot_ctrlqOverflow (i : Sid) (x : Slot) (s : State) : (setSlot i x s).ctrlqOverflow = s.ctrlqOverflow := rfl
@[simp] theorem setSlot_outWord (i : Sid) (x : Slot) (s : State) : (setSlot i x s).outWord = s.outWord := rfl
@[simp] theorem setSlot_outLeft (i : Sid) (x : Slot) (s : State) : (setSlot i x s).outLeft = s.outLeft := rfl
@[simp] theorem setSlot_lastTxTime (i : Sid) (x : Slot) (s : State) : (setSlot i x s).lastTxTime = s.lastTxTime := rfl
@[simp] theorem setSlot_liveRef (i : Sid) (x : Slot) (s : State) : (setSlot i x s).liveRef = s.liveRef := rfl
@[simp] theorem setSlot_pending (i : Sid) (x : Slot) (s : State) : (setSlot i x s).pending = s.pending := rfl
@[simp] theorem setSlot_result (i : Sid) (x : Slot) (s : State) : (setSlot i x s).result = s.result := rfl
@[simp] theorem setSlot_keyPort (i : Sid) (x : Slot) (s : State) : (setSlot i x s).keyPort = s.keyPort := rfl
@[simp] theorem setSlot_rgbPort (i : Sid) (x : Slot) (s : State) : (setSlot i x s).rgbPort = s.rgbPort := rfl

/-! ### mapSlots -/

@[simp] theorem mapSlots_params (f : Sid → Slot → Slot) (s : State) : (mapSlots f s).params = s.params := rfl
@[simp] theorem mapSlots_linkState (f : Sid → Slot → Slot) (s : State) : (mapSlots f s).linkState = s.linkState := rfl
@[simp] theorem mapSlots_role (f : Sid → Slot → Slot) (s : State) : (mapSlots f s).role = s.role := rfl
@[simp] theorem mapSlots_curTime (f : Sid → Slot → Slot) (s : State) : (mapSlots f s).curTime = s.curTime := rfl
@[simp] theorem mapSlots_twBase (f : Sid → Slot → Slot) (s : State) : (mapSlots f s).twBase = s.twBase := rfl
@[simp] theorem mapSlots_twCount (f : Sid → Slot → Slot) (s : State) : (mapSlots f s).twCount = s.twCount := rfl
@[simp] theorem mapSlots_rxCursor (f : Sid → Slot → Slot) (s : State) : (mapSlots f s).rxCursor = s.rxCursor := rfl
@[simp] theorem mapSlots_ctrlq (f : Sid → Slot → Slot) (s : State) : (mapSlots f s).ctrlq = s.ctrlq := rfl
@[simp] theorem mapSlots_ctrlqOverflow (f : Sid → Slot → Slot) (s : State) : (mapSlots f s).ctrlqOverflow = s.ctrlqOverflow := rfl
@[simp] theorem mapSlots_outWord (f : Sid → Slot → Slot) (s : State) : (mapSlots f s).outWord = s.outWord := rfl
@[simp] theorem mapSlots_outLeft (f : Sid → Slot → Slot) (s : State) : (mapSlots f s).outLeft = s.outLeft := rfl
@[simp] theorem mapSlots_lastTxTime (f : Sid → Slot → Slot) (s : State) : (mapSlots f s).lastTxTime = s.lastTxTime := rfl
@[simp] theorem mapSlots_liveRef (f : Sid → Slot → Slot) (s : State) : (mapSlots f s).liveRef = s.liveRef := rfl
@[simp] theorem mapSlots_pending (f : Sid → Slot → Slot) (s : State) : (mapSlots f s).pending = s.pending := rfl
@[simp] theorem mapSlots_result (f : Sid → Slot → Slot) (s : State) : (mapSlots f s).result = s.result := rfl
@[simp] theorem mapSlots_keyPort (f : Sid → Slot → Slot) (s : State) : (mapSlots f s).keyPort = s.keyPort := rfl
@[simp] theorem mapSlots_rgbPort (f : Sid → Slot → Slot) (s : State) : (mapSlots f s).rgbPort = s.rgbPort := rfl

/-! ### twPush -/

@[simp] theorem twPush_params (m : Message) (s : State) : (twPush m s).params = s.params := rfl
@[simp] theorem twPush_linkState (m : Message) (s : State) : (twPush m s).linkState = s.linkState := rfl
@[simp] theorem twPush_role (m : Message) (s : State) : (twPush m s).role = s.role := rfl
@[simp] theorem twPush_curTime (m : Message) (s : State) : (twPush m s).curTime = s.curTime := rfl
@[simp] theorem twPush_twBase (m : Message) (s : State) : (twPush m s).twBase = s.twBase := rfl
@[simp] theorem twPush_twCount (m : Message) (s : State) : (twPush m s).twCount = s.twCount + 1#6 := rfl
@[simp] theorem twPush_rxCursor (m : Message) (s : State) : (twPush m s).rxCursor = s.rxCursor := rfl
@[simp] theorem twPush_ctrlq (m : Message) (s : State) : (twPush m s).ctrlq = s.ctrlq := rfl
@[simp] theorem twPush_ctrlqOverflow (m : Message) (s : State) : (twPush m s).ctrlqOverflow = s.ctrlqOverflow := rfl
@[simp] theorem twPush_outWord (m : Message) (s : State) : (twPush m s).outWord = s.outWord := rfl
@[simp] theorem twPush_outLeft (m : Message) (s : State) : (twPush m s).outLeft = s.outLeft := rfl
@[simp] theorem twPush_lastTxTime (m : Message) (s : State) : (twPush m s).lastTxTime = s.lastTxTime := rfl
@[simp] theorem twPush_liveRef (m : Message) (s : State) : (twPush m s).liveRef = if s.twCount = 0#6 then s.curTime else s.liveRef := rfl
@[simp] theorem twPush_pending (m : Message) (s : State) : (twPush m s).pending = s.pending := rfl
@[simp] theorem twPush_result (m : Message) (s : State) : (twPush m s).result = s.result := rfl
@[simp] theorem twPush_keyPort (m : Message) (s : State) : (twPush m s).keyPort = s.keyPort := rfl
@[simp] theorem twPush_rgbPort (m : Message) (s : State) : (twPush m s).rgbPort = s.rgbPort := rfl

/-! ### clearWindow -/

@[simp] theorem clearWindow_params (s : State) : (clearWindow s).params = s.params := rfl
@[simp] theorem clearWindow_linkState (s : State) : (clearWindow s).linkState = s.linkState := rfl
@[simp] theorem clearWindow_role (s : State) : (clearWindow s).role = s.role := rfl
@[simp] theorem clearWindow_curTime (s : State) : (clearWindow s).curTime = s.curTime := rfl
@[simp] theorem clearWindow_twBase (s : State) : (clearWindow s).twBase = 0#5 := rfl
@[simp] theorem clearWindow_twCount (s : State) : (clearWindow s).twCount = 0#6 := rfl
@[simp] theorem clearWindow_rxCursor (s : State) : (clearWindow s).rxCursor = s.rxCursor := rfl
@[simp] theorem clearWindow_ctrlq (s : State) : (clearWindow s).ctrlq = s.ctrlq := rfl
@[simp] theorem clearWindow_ctrlqOverflow (s : State) : (clearWindow s).ctrlqOverflow = s.ctrlqOverflow := rfl
@[simp] theorem clearWindow_outWord (s : State) : (clearWindow s).outWord = s.outWord := rfl
@[simp] theorem clearWindow_outLeft (s : State) : (clearWindow s).outLeft = s.outLeft := rfl
@[simp] theorem clearWindow_lastTxTime (s : State) : (clearWindow s).lastTxTime = s.lastTxTime := rfl
@[simp] theorem clearWindow_liveRef (s : State) : (clearWindow s).liveRef = s.liveRef := rfl
@[simp] theorem clearWindow_pending (s : State) : (clearWindow s).pending = s.pending := rfl
@[simp] theorem clearWindow_result (s : State) : (clearWindow s).result = s.result := rfl
@[simp] theorem clearWindow_keyPort (s : State) : (clearWindow s).keyPort = s.keyPort := rfl
@[simp] theorem clearWindow_rgbPort (s : State) : (clearWindow s).rgbPort = s.rgbPort := rfl

/-! ### retireThrough -/

@[simp] theorem retireThrough_params (sid : Sid) (s : State) : (retireThrough sid s).params = s.params := rfl
@[simp] theorem retireThrough_linkState (sid : Sid) (s : State) : (retireThrough sid s).linkState = s.linkState := rfl
@[simp] theorem retireThrough_role (sid : Sid) (s : State) : (retireThrough sid s).role = s.role := rfl
@[simp] theorem retireThrough_curTime (sid : Sid) (s : State) : (retireThrough sid s).curTime = s.curTime := rfl
@[simp] theorem retireThrough_twBase (sid : Sid) (s : State) : (retireThrough sid s).twBase = sid + 1#5 := rfl
@[simp] theorem retireThrough_twCount (sid : Sid) (s : State) : (retireThrough sid s).twCount = s.twCount - ((offset s sid).setWidth 6 + 1#6) := rfl
@[simp] theorem retireThrough_rxCursor (sid : Sid) (s : State) : (retireThrough sid s).rxCursor = s.rxCursor := rfl
@[simp] theorem retireThrough_ctrlq (sid : Sid) (s : State) : (retireThrough sid s).ctrlq = s.ctrlq := rfl
@[simp] theorem retireThrough_ctrlqOverflow (sid : Sid) (s : State) : (retireThrough sid s).ctrlqOverflow = s.ctrlqOverflow := rfl
@[simp] theorem retireThrough_outWord (sid : Sid) (s : State) : (retireThrough sid s).outWord = s.outWord := rfl
@[simp] theorem retireThrough_outLeft (sid : Sid) (s : State) : (retireThrough sid s).outLeft = s.outLeft := rfl
@[simp] theorem retireThrough_lastTxTime (sid : Sid) (s : State) : (retireThrough sid s).lastTxTime = s.lastTxTime := rfl
@[simp] theorem retireThrough_liveRef (sid : Sid) (s : State) : (retireThrough sid s).liveRef = s.curTime := rfl
@[simp] theorem retireThrough_pending (sid : Sid) (s : State) : (retireThrough sid s).pending = s.pending := rfl
@[simp] theorem retireThrough_result (sid : Sid) (s : State) : (retireThrough sid s).result = s.result := rfl
@[simp] theorem retireThrough_keyPort (sid : Sid) (s : State) : (retireThrough sid s).keyPort = s.keyPort := rfl
@[simp] theorem retireThrough_rgbPort (sid : Sid) (s : State) : (retireThrough sid s).rgbPort = s.rgbPort := rfl

/-! ### markPending -/

@[simp] theorem markPending_params (sid : Sid) (s : State) : (markPending sid s).params = s.params := rfl
@[simp] theorem markPending_linkState (sid : Sid) (s : State) : (markPending sid s).linkState = s.linkState := rfl
@[simp] theorem markPending_role (sid : Sid) (s : State) : (markPending sid s).role = s.role := rfl
@[simp] theorem markPending_curTime (sid : Sid) (s : State) : (markPending sid s).curTime = s.curTime := rfl
@[simp] theorem markPending_twBase (sid : Sid) (s : State) : (markPending sid s).twBase = s.twBase := rfl
@[simp] theorem markPending_twCount (sid : Sid) (s : State) : (markPending sid s).twCount = s.twCount := rfl
@[simp] theorem markPending_rxCursor (sid : Sid) (s : State) : (markPending sid s).rxCursor = s.rxCursor := rfl
@[simp] theorem markPending_ctrlq (sid : Sid) (s : State) : (markPending sid s).ctrlq = s.ctrlq := rfl
@[simp] theorem markPending_ctrlqOverflow (sid : Sid) (s : State) : (markPending sid s).ctrlqOverflow = s.ctrlqOverflow := rfl
@[simp] theorem markPending_outWord (sid : Sid) (s : State) : (markPending sid s).outWord = s.outWord := rfl
@[simp] theorem markPending_outLeft (sid : Sid) (s : State) : (markPending sid s).outLeft = s.outLeft := rfl
@[simp] theorem markPending_lastTxTime (sid : Sid) (s : State) : (markPending sid s).lastTxTime = s.lastTxTime := rfl
@[simp] theorem markPending_liveRef (sid : Sid) (s : State) : (markPending sid s).liveRef = s.liveRef := rfl
@[simp] theorem markPending_pending (sid : Sid) (s : State) : (markPending sid s).pending = s.pending := rfl
@[simp] theorem markPending_result (sid : Sid) (s : State) : (markPending sid s).result = s.result := rfl
@[simp] theorem markPending_keyPort (sid : Sid) (s : State) : (markPending sid s).keyPort = s.keyPort := rfl
@[simp] theorem markPending_rgbPort (sid : Sid) (s : State) : (markPending sid s).rgbPort = s.rgbPort := rfl

/-! ### markOverdue -/

@[simp] theorem markOverdue_params (s : State) : (markOverdue s).params = s.params := rfl
@[simp] theorem markOverdue_linkState (s : State) : (markOverdue s).linkState = s.linkState := rfl
@[simp] theorem markOverdue_role (s : State) : (markOverdue s).role = s.role := rfl
@[simp] theorem markOverdue_curTime (s : State) : (markOverdue s).curTime = s.curTime := rfl
@[simp] theorem markOverdue_twBase (s : State) : (markOverdue s).twBase = s.twBase := rfl
@[simp] theorem markOverdue_twCount (s : State) : (markOverdue s).twCount = s.twCount := rfl
@[simp] theorem markOverdue_rxCursor (s : State) : (markOverdue s).rxCursor = s.rxCursor := rfl
@[simp] theorem markOverdue_ctrlq (s : State) : (markOverdue s).ctrlq = s.ctrlq := rfl
@[simp] theorem markOverdue_ctrlqOverflow (s : State) : (markOverdue s).ctrlqOverflow = s.ctrlqOverflow := rfl
@[simp] theorem markOverdue_outWord (s : State) : (markOverdue s).outWord = s.outWord := rfl
@[simp] theorem markOverdue_outLeft (s : State) : (markOverdue s).outLeft = s.outLeft := rfl
@[simp] theorem markOverdue_lastTxTime (s : State) : (markOverdue s).lastTxTime = s.lastTxTime := rfl
@[simp] theorem markOverdue_liveRef (s : State) : (markOverdue s).liveRef = s.liveRef := rfl
@[simp] theorem markOverdue_pending (s : State) : (markOverdue s).pending = s.pending := rfl
@[simp] theorem markOverdue_result (s : State) : (markOverdue s).result = s.result := rfl
@[simp] theorem markOverdue_keyPort (s : State) : (markOverdue s).keyPort = s.keyPort := rfl
@[simp] theorem markOverdue_rgbPort (s : State) : (markOverdue s).rgbPort = s.rgbPort := rfl

/-! ### pushPing -/

@[simp] theorem pushPing_params (s : State) : (pushPing s).params = s.params := rfl
@[simp] theorem pushPing_linkState (s : State) : (pushPing s).linkState = s.linkState := rfl
@[simp] theorem pushPing_role (s : State) : (pushPing s).role = s.role := rfl
@[simp] theorem pushPing_curTime (s : State) : (pushPing s).curTime = s.curTime := rfl
@[simp] theorem pushPing_twBase (s : State) : (pushPing s).twBase = s.twBase := rfl
@[simp] theorem pushPing_twCount (s : State) : (pushPing s).twCount = s.twCount + 1#6 := rfl
@[simp] theorem pushPing_rxCursor (s : State) : (pushPing s).rxCursor = s.rxCursor := rfl
@[simp] theorem pushPing_ctrlq (s : State) : (pushPing s).ctrlq = s.ctrlq := rfl
@[simp] theorem pushPing_ctrlqOverflow (s : State) : (pushPing s).ctrlqOverflow = s.ctrlqOverflow := rfl
@[simp] theorem pushPing_outWord (s : State) : (pushPing s).outWord = s.outWord := rfl
@[simp] theorem pushPing_outLeft (s : State) : (pushPing s).outLeft = s.outLeft := rfl
@[simp] theorem pushPing_lastTxTime (s : State) : (pushPing s).lastTxTime = s.curTime := rfl
@[simp] theorem pushPing_liveRef (s : State) : (pushPing s).liveRef = if s.twCount = 0#6 then s.curTime else s.liveRef := rfl
@[simp] theorem pushPing_pending (s : State) : (pushPing s).pending = s.pending := rfl
@[simp] theorem pushPing_result (s : State) : (pushPing s).result = s.result := rfl
@[simp] theorem pushPing_keyPort (s : State) : (pushPing s).keyPort = s.keyPort := rfl
@[simp] theorem pushPing_rgbPort (s : State) : (pushPing s).rgbPort = s.rgbPort := rfl

/-! ### ctrlSchedule -/

@[simp] theorem ctrlSchedule_params (k : CtrlKind) (i : Sid) (s : State) : (ctrlSchedule k i s).params = s.params := rfl
@[simp] theorem ctrlSchedule_linkState (k : CtrlKind) (i : Sid) (s : State) : (ctrlSchedule k i s).linkState = s.linkState := rfl
@[simp] theorem ctrlSchedule_role (k : CtrlKind) (i : Sid) (s : State) : (ctrlSchedule k i s).role = s.role := rfl
@[simp] theorem ctrlSchedule_curTime (k : CtrlKind) (i : Sid) (s : State) : (ctrlSchedule k i s).curTime = s.curTime := rfl
@[simp] theorem ctrlSchedule_twBase (k : CtrlKind) (i : Sid) (s : State) : (ctrlSchedule k i s).twBase = s.twBase := rfl
@[simp] theorem ctrlSchedule_slots (k : CtrlKind) (i : Sid) (s : State) : (ctrlSchedule k i s).slots = s.slots := rfl
@[simp] theorem ctrlSchedule_twCount (k : CtrlKind) (i : Sid) (s : State) : (ctrlSchedule k i s).twCount = s.twCount := rfl
@[simp] theorem ctrlSchedule_rxCursor (k : CtrlKind) (i : Sid) (s : State) : (ctrlSchedule k i s).rxCursor = s.rxCursor := rfl
@[simp] theorem ctrlSchedule_outWord (k : CtrlKind) (i : Sid) (s : State) : (ctrlSchedule k i s).outWord = s.outWord := rfl
@[simp] theorem ctrlSchedule_outLeft (k : CtrlKind) (i : Sid) (s : State) : (ctrlSchedule k i s).outLeft = s.outLeft := rfl
@[simp] theorem ctrlSchedule_lastTxTime (k : CtrlKind) (i : Sid) (s : State) : (ctrlSchedule k i s).lastTxTime = s.lastTxTime := rfl
@[simp] theorem ctrlSchedule_liveRef (k : CtrlKind) (i : Sid) (s : State) : (ctrlSchedule k i s).liveRef = s.liveRef := rfl
@[simp] theorem ctrlSchedule_pending (k : CtrlKind) (i : Sid) (s : State) : (ctrlSchedule k i s).pending = s.pending := rfl
@[simp] theorem ctrlSchedule_result (k : CtrlKind) (i : Sid) (s : State) : (ctrlSchedule k i s).result = s.result := rfl
@[simp] theorem ctrlSchedule_keyPort (k : CtrlKind) (i : Sid) (s : State) : (ctrlSchedule k i s).keyPort = s.keyPort := rfl
@[simp] theorem ctrlSchedule_rgbPort (k : CtrlKind) (i : Sid) (s : State) : (ctrlSchedule k i s).rgbPort = s.rgbPort := rfl

/-! ### sendFrame -/

@[simp] theorem sendFrame_params (p : Payload) (s : State) : (sendFrame p s).params = s.params := rfl
@[simp] theorem sendFrame_linkState (p : Payload) (s : State) : (sendFrame p s).linkState = s.linkState := rfl
@[simp] theorem sendFrame_role (p : Payload) (s : State) : (sendFrame p s).role = s.role := rfl
@[simp] theorem sendFrame_curTime (p : Payload) (s : State) : (sendFrame p s).curTime = s.curTime := rfl
@[simp] theorem sendFrame_twBase (p : Payload) (s : State) : (sendFrame p s).twBase = s.twBase := rfl
@[simp] theorem sendFrame_slots (p : Payload) (s : State) : (sendFrame p s).slots = s.slots := rfl
@[simp] theorem sendFrame_twCount (p : Payload) (s : State) : (sendFrame p s).twCount = s.twCount := rfl
@[simp] theorem sendFrame_rxCursor (p : Payload) (s : State) : (sendFrame p s).rxCursor = s.rxCursor := rfl
@[simp] theorem sendFrame_ctrlq (p : Payload) (s : State) : (sendFrame p s).ctrlq = s.ctrlq := rfl
@[simp] theorem sendFrame_ctrlqOverflow (p : Payload) (s : State) : (sendFrame p s).ctrlqOverflow = s.ctrlqOverflow := rfl
@[simp] theorem sendFrame_outWord (p : Payload) (s : State) : (sendFrame p s).outWord = frame s.params.crc p := rfl
@[simp] theorem sendFrame_outLeft (p : Payload) (s : State) : (sendFrame p s).outLeft = 1#1 := rfl
@[simp] theorem sendFrame_lastTxTime (p : Payload) (s : State) : (sendFrame p s).lastTxTime = s.curTime := rfl
@[simp] theorem sendFrame_liveRef (p : Payload) (s : State) : (sendFrame p s).liveRef = s.liveRef := rfl
@[simp] theorem sendFrame_pending (p : Payload) (s : State) : (sendFrame p s).pending = s.pending := rfl
@[simp] theorem sendFrame_result (p : Payload) (s : State) : (sendFrame p s).result = .word (frame s.params.crc p) := rfl
@[simp] theorem sendFrame_keyPort (p : Payload) (s : State) : (sendFrame p s).keyPort = none := rfl
@[simp] theorem sendFrame_rgbPort (p : Payload) (s : State) : (sendFrame p s).rgbPort = none := rfl

/-! ### handshakeStart -/

@[simp] theorem handshakeStart_params (s : State) : (handshakeStart s).params = s.params := rfl
@[simp] theorem handshakeStart_linkState (s : State) : (handshakeStart s).linkState = .handshaking := rfl
@[simp] theorem handshakeStart_role (s : State) : (handshakeStart s).role = s.role := rfl
@[simp] theorem handshakeStart_curTime (s : State) : (handshakeStart s).curTime = s.curTime := rfl
@[simp] theorem handshakeStart_twBase (s : State) : (handshakeStart s).twBase = s.twBase := rfl
@[simp] theorem handshakeStart_twCount (s : State) : (handshakeStart s).twCount = s.twCount + 1#6 := rfl
@[simp] theorem handshakeStart_rxCursor (s : State) : (handshakeStart s).rxCursor = s.rxCursor := rfl
@[simp] theorem handshakeStart_ctrlq (s : State) : (handshakeStart s).ctrlq = s.ctrlq := rfl
@[simp] theorem handshakeStart_ctrlqOverflow (s : State) : (handshakeStart s).ctrlqOverflow = s.ctrlqOverflow := rfl
@[simp] theorem handshakeStart_outWord (s : State) : (handshakeStart s).outWord = s.outWord := rfl
@[simp] theorem handshakeStart_outLeft (s : State) : (handshakeStart s).outLeft = s.outLeft := rfl
@[simp] theorem handshakeStart_lastTxTime (s : State) : (handshakeStart s).lastTxTime = s.lastTxTime := rfl
@[simp] theorem handshakeStart_liveRef (s : State) : (handshakeStart s).liveRef = if s.twCount = 0#6 then s.curTime else s.liveRef := rfl
@[simp] theorem handshakeStart_pending (s : State) : (handshakeStart s).pending = s.pending := rfl
@[simp] theorem handshakeStart_result (s : State) : (handshakeStart s).result = s.result := rfl
@[simp] theorem handshakeStart_keyPort (s : State) : (handshakeStart s).keyPort = s.keyPort := rfl
@[simp] theorem handshakeStart_rgbPort (s : State) : (handshakeStart s).rgbPort = s.rgbPort := rfl

/-! ### handshakeComplete -/

@[simp] theorem handshakeComplete_params (s : State) : (handshakeComplete s).params = s.params := rfl
@[simp] theorem handshakeComplete_linkState (s : State) : (handshakeComplete s).linkState = .connected := rfl
@[simp] theorem handshakeComplete_role (s : State) : (handshakeComplete s).role = s.role := rfl
@[simp] theorem handshakeComplete_curTime (s : State) : (handshakeComplete s).curTime = s.curTime := rfl
@[simp] theorem handshakeComplete_twBase (s : State) : (handshakeComplete s).twBase = s.twBase := rfl
@[simp] theorem handshakeComplete_slots (s : State) : (handshakeComplete s).slots = s.slots := rfl
@[simp] theorem handshakeComplete_twCount (s : State) : (handshakeComplete s).twCount = s.twCount := rfl
@[simp] theorem handshakeComplete_rxCursor (s : State) : (handshakeComplete s).rxCursor = s.rxCursor := rfl
@[simp] theorem handshakeComplete_ctrlq (s : State) : (handshakeComplete s).ctrlq = s.ctrlq := rfl
@[simp] theorem handshakeComplete_ctrlqOverflow (s : State) : (handshakeComplete s).ctrlqOverflow = s.ctrlqOverflow := rfl
@[simp] theorem handshakeComplete_outWord (s : State) : (handshakeComplete s).outWord = s.outWord := rfl
@[simp] theorem handshakeComplete_outLeft (s : State) : (handshakeComplete s).outLeft = s.outLeft := rfl
@[simp] theorem handshakeComplete_lastTxTime (s : State) : (handshakeComplete s).lastTxTime = s.lastTxTime := rfl
@[simp] theorem handshakeComplete_liveRef (s : State) : (handshakeComplete s).liveRef = s.liveRef := rfl
@[simp] theorem handshakeComplete_pending (s : State) : (handshakeComplete s).pending = s.pending := rfl
@[simp] theorem handshakeComplete_result (s : State) : (handshakeComplete s).result = s.result := rfl
@[simp] theorem handshakeComplete_keyPort (s : State) : (handshakeComplete s).keyPort = s.keyPort := rfl
@[simp] theorem handshakeComplete_rgbPort (s : State) : (handshakeComplete s).rgbPort = s.rgbPort := rfl

/-! ### txResync -/

@[simp] theorem txResync_params (s : State) : (txResync s).params = s.params := rfl
@[simp] theorem txResync_linkState (s : State) : (txResync s).linkState = .handshaking := rfl
@[simp] theorem txResync_role (s : State) : (txResync s).role = s.role := rfl
@[simp] theorem txResync_curTime (s : State) : (txResync s).curTime = s.curTime := rfl
@[simp] theorem txResync_twBase (s : State) : (txResync s).twBase = 0#5 := rfl
@[simp] theorem txResync_twCount (s : State) : (txResync s).twCount = 1#6 := rfl
@[simp] theorem txResync_rxCursor (s : State) : (txResync s).rxCursor = s.rxCursor := rfl
@[simp] theorem txResync_ctrlq (s : State) : (txResync s).ctrlq = s.ctrlq := rfl
@[simp] theorem txResync_ctrlqOverflow (s : State) : (txResync s).ctrlqOverflow = s.ctrlqOverflow := rfl
@[simp] theorem txResync_outWord (s : State) : (txResync s).outWord = s.outWord := rfl
@[simp] theorem txResync_outLeft (s : State) : (txResync s).outLeft = s.outLeft := rfl
@[simp] theorem txResync_lastTxTime (s : State) : (txResync s).lastTxTime = s.lastTxTime := rfl
@[simp] theorem txResync_liveRef (s : State) : (txResync s).liveRef = s.curTime := rfl
@[simp] theorem txResync_pending (s : State) : (txResync s).pending = s.pending := rfl
@[simp] theorem txResync_result (s : State) : (txResync s).result = s.result := rfl
@[simp] theorem txResync_keyPort (s : State) : (txResync s).keyPort = s.keyPort := rfl
@[simp] theorem txResync_rgbPort (s : State) : (txResync s).rgbPort = s.rgbPort := rfl

/-! ### linkReset -/

@[simp] theorem linkReset_params (s : State) : (linkReset s).params = s.params := rfl
@[simp] theorem linkReset_linkState (s : State) : (linkReset s).linkState = .disconnected := rfl
@[simp] theorem linkReset_role (s : State) : (linkReset s).role = s.role := rfl
@[simp] theorem linkReset_curTime (s : State) : (linkReset s).curTime = s.curTime := rfl
@[simp] theorem linkReset_twBase (s : State) : (linkReset s).twBase = 0#5 := rfl
@[simp] theorem linkReset_twCount (s : State) : (linkReset s).twCount = 0#6 := rfl
@[simp] theorem linkReset_rxCursor (s : State) : (linkReset s).rxCursor = 31#5 := rfl
@[simp] theorem linkReset_ctrlq (s : State) : (linkReset s).ctrlq = [] := rfl
@[simp] theorem linkReset_ctrlqOverflow (s : State) : (linkReset s).ctrlqOverflow = s.ctrlqOverflow := rfl
@[simp] theorem linkReset_outWord (s : State) : (linkReset s).outWord = s.outWord := rfl
@[simp] theorem linkReset_outLeft (s : State) : (linkReset s).outLeft = 0#1 := rfl
@[simp] theorem linkReset_lastTxTime (s : State) : (linkReset s).lastTxTime = s.lastTxTime := rfl
@[simp] theorem linkReset_liveRef (s : State) : (linkReset s).liveRef = s.liveRef := rfl
@[simp] theorem linkReset_pending (s : State) : (linkReset s).pending = s.pending := rfl
@[simp] theorem linkReset_result (s : State) : (linkReset s).result = s.result := rfl
@[simp] theorem linkReset_keyPort (s : State) : (linkReset s).keyPort = s.keyPort := rfl
@[simp] theorem linkReset_rgbPort (s : State) : (linkReset s).rgbPort = s.rgbPort := rfl

/-! ### resetBlock -/

@[simp] theorem resetBlock_params (b : BitVec 1) (s : State) : (resetBlock b s).params = s.params := rfl
@[simp] theorem resetBlock_linkState (b : BitVec 1) (s : State) : (resetBlock b s).linkState = .disconnected := rfl
@[simp] theorem resetBlock_role (b : BitVec 1) (s : State) : (resetBlock b s).role = Role.ofArg b := rfl
@[simp] theorem resetBlock_curTime (b : BitVec 1) (s : State) : (resetBlock b s).curTime = 0#32 := rfl
@[simp] theorem resetBlock_twBase (b : BitVec 1) (s : State) : (resetBlock b s).twBase = 0#5 := rfl
@[simp] theorem resetBlock_twCount (b : BitVec 1) (s : State) : (resetBlock b s).twCount = 0#6 := rfl
@[simp] theorem resetBlock_rxCursor (b : BitVec 1) (s : State) : (resetBlock b s).rxCursor = 31#5 := rfl
@[simp] theorem resetBlock_ctrlq (b : BitVec 1) (s : State) : (resetBlock b s).ctrlq = [] := rfl
@[simp] theorem resetBlock_ctrlqOverflow (b : BitVec 1) (s : State) : (resetBlock b s).ctrlqOverflow = false := rfl
@[simp] theorem resetBlock_outLeft (b : BitVec 1) (s : State) : (resetBlock b s).outLeft = 0#1 := rfl
@[simp] theorem resetBlock_lastTxTime (b : BitVec 1) (s : State) : (resetBlock b s).lastTxTime = 0#32 := rfl
@[simp] theorem resetBlock_liveRef (b : BitVec 1) (s : State) : (resetBlock b s).liveRef = 0#32 := rfl
@[simp] theorem resetBlock_pending (b : BitVec 1) (s : State) : (resetBlock b s).pending = s.pending := rfl
@[simp] theorem resetBlock_result (b : BitVec 1) (s : State) : (resetBlock b s).result = .none := rfl
@[simp] theorem resetBlock_keyPort (b : BitVec 1) (s : State) : (resetBlock b s).keyPort = none := rfl
@[simp] theorem resetBlock_rgbPort (b : BitVec 1) (s : State) : (resetBlock b s).rgbPort = none := rfl

/-! ### presentFirst -/

@[simp] theorem presentFirst_params (r : Input) (s : State) : (presentFirst r s).params = s.params := rfl
@[simp] theorem presentFirst_linkState (r : Input) (s : State) : (presentFirst r s).linkState = s.linkState := rfl
@[simp] theorem presentFirst_role (r : Input) (s : State) : (presentFirst r s).role = s.role := rfl
@[simp] theorem presentFirst_curTime (r : Input) (s : State) : (presentFirst r s).curTime = s.curTime := rfl
@[simp] theorem presentFirst_twBase (r : Input) (s : State) : (presentFirst r s).twBase = s.twBase := rfl
@[simp] theorem presentFirst_slots (r : Input) (s : State) : (presentFirst r s).slots = s.slots := rfl
@[simp] theorem presentFirst_twCount (r : Input) (s : State) : (presentFirst r s).twCount = s.twCount := rfl
@[simp] theorem presentFirst_rxCursor (r : Input) (s : State) : (presentFirst r s).rxCursor = s.rxCursor := rfl
@[simp] theorem presentFirst_ctrlq (r : Input) (s : State) : (presentFirst r s).ctrlq = s.ctrlq := rfl
@[simp] theorem presentFirst_ctrlqOverflow (r : Input) (s : State) : (presentFirst r s).ctrlqOverflow = s.ctrlqOverflow := rfl
@[simp] theorem presentFirst_outWord (r : Input) (s : State) : (presentFirst r s).outWord = s.outWord := rfl
@[simp] theorem presentFirst_outLeft (r : Input) (s : State) : (presentFirst r s).outLeft = s.outLeft := rfl
@[simp] theorem presentFirst_lastTxTime (r : Input) (s : State) : (presentFirst r s).lastTxTime = s.lastTxTime := rfl
@[simp] theorem presentFirst_liveRef (r : Input) (s : State) : (presentFirst r s).liveRef = s.liveRef := rfl
@[simp] theorem presentFirst_pending (r : Input) (s : State) : (presentFirst r s).pending = r :: s.pending := rfl
@[simp] theorem presentFirst_result (r : Input) (s : State) : (presentFirst r s).result = s.result := rfl
@[simp] theorem presentFirst_keyPort (r : Input) (s : State) : (presentFirst r s).keyPort = s.keyPort := rfl
@[simp] theorem presentFirst_rgbPort (r : Input) (s : State) : (presentFirst r s).rgbPort = s.rgbPort := rfl

end Sys2Proof.Machine
end

