-- ==== Sys2Proof/Laws/Ops.lean ====
section
/-! SUPPORT. What each shared operation does to a slot, to what is outstanding and to the control queue: once each, for proofs to cite in place
of unfolding the operation. -/

namespace Sys2Proof.Machine

/-! ### Slots -/

/-- Two SequenceIds with one number are one. -/
theorem sid_eq_iff_toNat {i j : Sid} : i = j ↔ i.toNat = j.toNat :=
  ⟨fun h => h ▸ rfl, BitVec.eq_of_toNat_eq⟩

theorem setSlot_slot (i j : Sid) (x : Slot) (s : State) :
    (setSlot i x s).slot j = if i = j then x else s.slot j := by
  simp only [State.slot, setSlot, Vector.getElem_set, sid_eq_iff_toNat]

@[simp] theorem setSlot_slot_self (i : Sid) (x : Slot) (s : State) : (setSlot i x s).slot i = x := by
  simp [setSlot_slot]

@[simp] theorem mapSlots_slot (f : Sid → Slot → Slot) (s : State) (i : Sid) : (mapSlots f s).slot i = f i (s.slot i) := by
  simp [State.slot, mapSlots]

/-- Only `slots` holds slots: an update elsewhere leaves every slot. -/
theorem slot_congr {s t : State} (h : t.slots = s.slots) (i : Sid) : t.slot i = s.slot i := by
  simp only [State.slot, h]

@[simp] theorem report_slot (r : Result) (s : State) (i : Sid) : (report r s).slot i = s.slot i := rfl
@[simp] theorem deliver_slot (m : Message) (s : State) (i : Sid) : (deliver m s).slot i = s.slot i := rfl
@[simp] theorem latchTime_slot (now : Time) (s : State) (i : Sid) : (latchTime now s).slot i = s.slot i := rfl
@[simp] theorem moveCursor_slot (c : Sid) (s : State) (i : Sid) : (moveCursor c s).slot i = s.slot i := rfl
@[simp] theorem ctrlSchedule_slot (k : CtrlKind) (c : Sid) (s : State) (i : Sid) : (ctrlSchedule k c s).slot i = s.slot i := rfl
@[simp] theorem sendFrame_slot (p : Payload) (s : State) (i : Sid) : (sendFrame p s).slot i = s.slot i := rfl
@[simp] theorem handshakeComplete_slot (s : State) (i : Sid) : (handshakeComplete s).slot i = s.slot i := rfl
@[simp] theorem presentFirst_slot (r : Input) (s : State) (i : Sid) : (presentFirst r s).slot i = s.slot i := rfl

/-- `tw_push` writes the slot at `next_sid` and no other (42_transmit.md R133). -/
theorem twPush_slot (m : Message) (s : State) (i : Sid) :
    (twPush m s).slot i = if nextSid s = i then { msg := m.desc, timeSent := s.curTime, pend := true } else s.slot i :=
  setSlot_slot (nextSid s) i _ s

theorem pushPing_slot (s : State) (i : Sid) : (pushPing s).slot i = (twPush (.hello false) s).slot i := rfl

theorem handshakeStart_slot (s : State) (i : Sid) : (handshakeStart s).slot i = (twPush (.hello true) s).slot i := rfl

@[simp] theorem clearWindow_slot (s : State) (i : Sid) : (clearWindow s).slot i = { s.slot i with pend := false } :=
  mapSlots_slot (fun _ x => { x with pend := false }) s i

@[simp] theorem linkReset_slot (s : State) (i : Sid) : (linkReset s).slot i = { s.slot i with pend := false } :=
  clearWindow_slot s i

theorem retireThrough_slot (sid : Sid) (s : State) (i : Sid) :
    (retireThrough sid s).slot i = if offset s i ≤ offset s sid then { s.slot i with pend := false } else s.slot i :=
  mapSlots_slot (fun i x => if offset s i ≤ offset s sid then { x with pend := false } else x) s i

theorem markPending_slot (sid : Sid) (s : State) (i : Sid) :
    (markPending sid s).slot i = if sid = i then { s.slot sid with pend := true } else s.slot i :=
  setSlot_slot sid i _ s

theorem markOverdue_slot (s : State) (i : Sid) :
    (markOverdue s).slot i = if overdue s i then { s.slot i with pend := true } else s.slot i :=
  mapSlots_slot (fun i x => if overdue s i then { x with pend := true } else x) s i

@[simp] theorem resetBlock_slot (b : BitVec 1) (s : State) (i : Sid) :
    (resetBlock b s).slot i = { msg := 0#11, timeSent := 0#32, pend := false } := by
  simp [State.slot, resetBlock]

/-- The push of a tx resync goes to slot 0 of the emptied window (44_link.md R190). -/
theorem txResync_slot (s : State) (i : Sid) :
    (txResync s).slot i =
      if 0#5 = i then { msg := (Message.hello true).desc, timeSent := s.curTime, pend := true }
      else { s.slot i with pend := false } := by
  have h : nextSid (clearWindow s) = 0#5 := by simp [nextSid]
  have := twPush_slot (.hello true) (clearWindow s) i
  simp only [h, clearWindow_slot, clearWindow_curTime] at this
  exact this

/-! ### What is outstanding -/

theorem outstanding_congr {s t : State} (hb : t.twBase = s.twBase) (hc : t.twCount = s.twCount) (i : Sid) :
    outstanding t i = outstanding s i := by
  unfold outstanding offset
  rw [hb, hc]

/-- `outstanding` as numbers (42_transmit.md R131). -/
theorem outstanding_iff (s : State) (i : Sid) : outstanding s i = true ↔ (i - s.twBase).toNat < s.twCount.toNat := by
  have h5 : (i - s.twBase).toNat < 32 := (i - s.twBase).isLt
  simp only [outstanding, offset, Bool.and_eq_true, decide_eq_true_eq, BitVec.lt_def, BitVec.toNat_setWidth, BitVec.toNat_ofNat]
  omega

@[simp] theorem latchTime_outstanding (now : Time) (s : State) (i : Sid) : outstanding (latchTime now s) i = outstanding s i :=
  outstanding_congr rfl rfl i

@[simp] theorem report_outstanding (r : Result) (s : State) (i : Sid) : outstanding (report r s) i = outstanding s i :=
  outstanding_congr rfl rfl i

/-- With nothing in the window nothing is outstanding. -/
theorem outstanding_of_count_zero {s : State} (h : s.twCount = 0#6) (i : Sid) : outstanding s i = false := by
  simp [outstanding, h]

/-- The sid at offset `k` has offset `k`. -/
theorem offset_add (s : State) {k : Nat} (hk : k < 32) : (s.twBase + BitVec.ofNat 5 k - s.twBase).toNat = k := by
  have : s.twBase + BitVec.ofNat 5 k - s.twBase = BitVec.ofNat 5 k := by
    rw [BitVec.add_comm, BitVec.add_sub_cancel]
  rw [this, BitVec.toNat_ofNat, Nat.mod_eq_of_lt hk]

/-- Every sid is the one at its own offset. -/
theorem base_add_offset (s : State) (i : Sid) : s.twBase + BitVec.ofNat 5 (i - s.twBase).toNat = i := by
  rw [BitVec.ofNat_toNat, BitVec.setWidth_eq, BitVec.add_comm, BitVec.sub_add_cancel]

/-! ### The scheduler's choice -/

/-- Nothing is chosen exactly if no outstanding slot is pending (42_transmit.md R155). -/
theorem firstPending_eq_none_iff (s : State) :
    firstPending s = none ↔ ∀ i : Sid, outstanding s i = true → (s.slot i).pend = false := by
  simp only [firstPending, Option.map_eq_none_iff, List.find?_eq_none, List.mem_range]
  constructor
  · intro h i hi
    have := h _ ((outstanding_iff s i).mp hi)
    rw [base_add_offset] at this
    simpa using this
  · intro h k hk
    have h32 : k % 32 < 32 := Nat.mod_lt _ (by decide)
    have e : BitVec.ofNat 5 k = BitVec.ofNat 5 (k % 32) := by
      apply BitVec.eq_of_toNat_eq
      simp
    have := h (s.twBase + BitVec.ofNat 5 k) (by
      rw [outstanding_iff, e, offset_add s h32]
      omega)
    simpa using this

/-- The slot chosen is the outstanding pending slot with the smallest offset (42_transmit.md R153). -/
theorem firstPending_eq_some {s : State} {k : Nat} (hk : k < s.twCount.toNat)
    (hp : (s.slot (s.twBase + BitVec.ofNat 5 k)).pend = true)
    (hmin : ∀ j < k, (s.slot (s.twBase + BitVec.ofNat 5 j)).pend = false) :
    firstPending s = some (s.twBase + BitVec.ofNat 5 k) := by
  simp only [firstPending, Option.map_eq_some_iff]
  refine ⟨k, ?_, rfl⟩
  rw [List.find?_range_eq_some]
  exact ⟨hp, by simpa using hk, fun j hj => by simp [hmin j hj]⟩

/-- A slot chosen is pending, and its offset is below the count. -/
theorem firstPending_some {s : State} {i : Sid} (h : firstPending s = some i) :
    (s.slot i).pend = true ∧ outstanding s i = true := by
  simp only [firstPending, Option.map_eq_some_iff] at h
  obtain ⟨k, hk, rfl⟩ := h
  have hp := List.find?_some hk
  have hm := List.mem_of_find?_eq_some hk
  rw [List.mem_range] at hm
  have h32 : k % 32 < 32 := Nat.mod_lt _ (by decide)
  have e : BitVec.ofNat 5 k = BitVec.ofNat 5 (k % 32) := by
    apply BitVec.eq_of_toNat_eq
    simp
  refine ⟨hp, ?_⟩
  rw [outstanding_iff, e, offset_add s h32]
  omega

/-! ### The control queue -/

/-- `ctrl_schedule` appends while there is room and otherwise drops and sets the sticky bit (42_transmit.md R157). -/
theorem ctrlSchedule_eq (k : CtrlKind) (i : Sid) (s : State) :
    ctrlSchedule k i s =
      { s with ctrlq := queueAfter s.ctrlq ⟨k, i⟩, ctrlqOverflow := overflowAfter s.ctrlq s.ctrlqOverflow } := rfl

theorem queueAfter_length_le {q : List CtrlEntry} (h : q.length ≤ 8) (e : CtrlEntry) : (queueAfter q e).length ≤ 8 := by
  unfold queueAfter
  split
  · simp only [List.length_append, List.length_singleton]
    omega
  · exact h

theorem mem_queueAfter {q : List CtrlEntry} {e x : CtrlEntry} (h : x ∈ queueAfter q e) : x ∈ q ∨ x = e := by
  unfold queueAfter at h
  split at h
  · simpa using h
  · exact .inl h

/-! ### The ends of TICK (42_transmit.md R144) -/

theorem tickBody_of_timedOut {s : State} (h : linkTimedOut s = true) :
    tickBody s = report (.tick { linkTimeout := true }) (linkReset s) := by
  simp only [tickBody, h, if_true]

/-- The liveness timeout never fires in Disconnected (44_link.md R197). -/
theorem linkTimedOut_of_disconnected {s : State} (h : s.linkState = .disconnected) : linkTimedOut s = false := by
  simp [linkTimedOut, h]

theorem tickBody_of_disconnected {s : State} (h : s.linkState = .disconnected) :
    tickBody s =
      if s.role = .initiator then report (.tick { handshakeStarted := true }) (handshakeStart s) else report (.tick {}) s := by
  simp [tickBody, linkTimedOut_of_disconnected h, h]

theorem tickBody_of_up {s : State} (h : linkTimedOut s = false) (hl : s.linkState ≠ .disconnected) :
    tickBody s =
      if pingDue (markOverdue s) then
        report (.tick { retransmitsMarked := overdueCount s, pingEnqueued := true }) (pushPing (markOverdue s))
      else report (.tick { retransmitsMarked := overdueCount s }) (markOverdue s) := by
  simp [tickBody, h, hl]

/-- Every end of TICK, with what leads to it. -/
theorem tickBody_cases (s : State) :
    (linkTimedOut s = true ∧ tickBody s = report (.tick { linkTimeout := true }) (linkReset s)) ∨
    (s.linkState = .disconnected ∧ s.role = .initiator ∧
      tickBody s = report (.tick { handshakeStarted := true }) (handshakeStart s)) ∨
    (s.linkState = .disconnected ∧ s.role ≠ .initiator ∧ tickBody s = report (.tick {}) s) ∨
    (linkTimedOut s = false ∧ s.linkState ≠ .disconnected ∧ pingDue (markOverdue s) = true ∧
      tickBody s = report (.tick { retransmitsMarked := overdueCount s, pingEnqueued := true }) (pushPing (markOverdue s))) ∨
    (linkTimedOut s = false ∧ s.linkState ≠ .disconnected ∧ pingDue (markOverdue s) = false ∧
      tickBody s = report (.tick { retransmitsMarked := overdueCount s }) (markOverdue s)) := by
  by_cases ht : linkTimedOut s = true
  · exact .inl ⟨ht, tickBody_of_timedOut ht⟩
  · by_cases hd : s.linkState = .disconnected
    · by_cases hr : s.role = .initiator
      · exact .inr (.inl ⟨hd, hr, by rw [tickBody_of_disconnected hd, if_pos hr]⟩)
      · exact .inr (.inr (.inl ⟨hd, hr, by rw [tickBody_of_disconnected hd, if_neg hr]⟩))
    · rw [Bool.not_eq_true] at ht
      cases hp : pingDue (markOverdue s)
      · exact .inr (.inr (.inr (.inr ⟨ht, hd, rfl, by rw [tickBody_of_up ht hd, hp]; rfl⟩)))
      · exact .inr (.inr (.inr (.inl ⟨ht, hd, rfl, by rw [tickBody_of_up ht hd, hp]; rfl⟩)))

/-! ### The ends of TX_SLOT (42_transmit.md R151) -/

/-- Every end of TX_SLOT, with what leads to it. -/
theorem execTxSlot_cases (s : State) :
    (s.outLeft = 1#1 ∧ execTxSlot s = .next (report (.word s.outWord) { s with outLeft := 0#1 })) ∨
    (s.outLeft = 0#1 ∧ ∃ e rest, s.ctrlq = e :: rest ∧ execTxSlot s = .next (sendFrame e.payload { s with ctrlq := rest })) ∨
    (s.outLeft = 0#1 ∧ s.ctrlq = [] ∧ ∃ sid, firstPending s = some sid ∧ execTxSlot s =
      .next (sendFrame (slotPayload s sid) (setSlot sid { s.slot sid with pend := false, timeSent := s.curTime } s))) ∨
    (s.outLeft = 0#1 ∧ s.ctrlq = [] ∧ firstPending s = none ∧ execTxSlot s = .next (report .nothing s)) := by
  have h2 : s.outLeft = 1#1 ∨ s.outLeft = 0#1 := by
    have := s.outLeft.isLt
    rcases Nat.lt_or_ge s.outLeft.toNat 1 with h | h
    · exact .inr (BitVec.eq_of_toNat_eq (by simp; omega))
    · exact .inl (BitVec.eq_of_toNat_eq (by simp; omega))
  rcases h2 with h | h
  · exact .inl ⟨h, by simp [execTxSlot, h]⟩
  · cases hq : s.ctrlq with
    | cons e rest => exact .inr (.inl ⟨h, e, rest, rfl, by simp [execTxSlot, h, hq]⟩)
    | nil =>
      cases hf : firstPending s with
      | some sid => exact .inr (.inr (.inl ⟨h, rfl, sid, rfl, by simp [execTxSlot, h, hq, hf]⟩))
      | none => exact .inr (.inr (.inr ⟨h, rfl, rfl, by simp [execTxSlot, h, hq, hf]⟩))

/-! ### The ends of ENQUEUE (42_transmit.md R134) -/

/-- Every end of ENQUEUE, with what leads to it. -/
theorem execEnqueue_cases (desc : Desc) (s : State) :
    (desc.isApplication = false ∧ execEnqueue desc s = .next (report .badMessage s)) ∨
    (desc.isApplication = true ∧ s.linkState ≠ .connected ∧ execEnqueue desc s = .next (report .linkDown s)) ∨
    (desc.isApplication = true ∧ s.linkState = .connected ∧ s.twCount = Config.windowCap ∧
      execEnqueue desc s = .next (report .windowFull s)) ∨
    (s.linkState = .connected ∧ s.twCount ≠ Config.windowCap ∧ ∃ sid m, decodePayload (0#5 ++ desc) = .ok (sid, m) ∧
      m.isApplication = true ∧ desc.isApplication = true ∧
      execEnqueue desc s = .next (report (.enqueued (nextSid s)) (twPush m s))) := by
  unfold execEnqueue Desc.isApplication
  cases hd : decodePayload (0#5 ++ desc) with
  | error e => exact .inl ⟨rfl, rfl⟩
  | ok x =>
    obtain ⟨sid, m⟩ := x
    simp only
    cases hm : m.isApplication
    · exact .inl ⟨rfl, rfl⟩
    · by_cases hl : s.linkState = .connected
      · by_cases hc : s.twCount = Config.windowCap
        · exact .inr (.inr (.inl ⟨rfl, hl, hc, by simp [hl, hc]⟩))
        · exact .inr (.inr (.inr ⟨hl, hc, sid, m, rfl, hm, rfl, by simp [hl, hc]⟩))
      · exact .inr (.inl ⟨rfl, hl, by simp [hl]⟩)

/-! ### The meanings -/

/-- Every instruction of the table ends in a next state: "No result is fatal" (60_exceptions.md R207). -/
theorem exec_goes_on (i : Instr) (s : State) : ∃ t, exec i s = .next t := by
  cases i with
  | enqueue desc =>
    simp only [exec, execEnqueue]
    repeat' split
    all_goals exact ⟨_, rfl⟩
  | txSlot =>
    simp only [exec, execTxSlot]
    repeat' split
    all_goals exact ⟨_, rfl⟩
  | _ => exact ⟨_, rfl⟩

end Sys2Proof.Machine
end

