-- ==== Sys2Proof/Laws/Codec.lean ====
section
/-! SUPPORT. The codec and the receive path, once each: what a message's own fields decode to, what a command's code decodes to, and what the
receive path makes of a frame (40_codec.md, 30_encoding.md R88, 43_receive.md R165). -/

namespace Sys2Proof

/-! ### Messages -/

/-- A message's tag and payload field decode to it. -/
theorem decodeFields_message (m : Message) : decodeFields m.tag m.pl = .ok m := by
  cases m with
  | ack s => revert s; decide
  | error s => revert s; decide
  | press r c => revert r c; decide
  | release r c => revert r c; decide
  | hello b => revert b; decide
  | rgbChangeAnim n => rfl
  | rgbLayerChange n => rfl

/-- Fields that decode are the message's own. -/
theorem fields_of_decodeFields {tag : BitVec 3} {pl : BitVec 8} {m : Message} (h : decodeFields tag pl = .ok m) :
    m.tag = tag ∧ m.pl = pl := by
  have key : ∀ (tag : BitVec 3) (pl : BitVec 8),
      (match decodeFields tag pl with | .ok m => decide (m.tag = tag ∧ m.pl = pl) | .error _ => true) = true := by
    decide +kernel
  have := key tag pl
  rw [h] at this
  simpa using this

/-- No message has tag 7 (30_encoding.md R69). -/
theorem tag_ne_seven (m : Message) : m.tag ≠ 7#3 := by
  cases m <;> simp [Message.tag]

/-- The descriptor of a message is its tag over its payload field (30_encoding.md R84). -/
theorem desc_toNat (m : Message) : m.desc.toNat = m.tag.toNat * 256 + m.pl.toNat := by
  have h := toNat_field (n := 16) (encodePayload m 0#5) 10 0
  have e := payload_toNat 0#5 m.tag m.pl
  have := m.tag.isLt
  have := m.pl.isLt
  simp only [BitVec.toNat_ofNat] at e
  unfold Message.desc
  rw [h]
  unfold encodePayload
  rw [e]
  omega

/-- A slot's payload is the encoding of its message under its sid (42_transmit.md R151: `p16 = s[4:0] : slot[s].msg` is `encode(m, s)`). -/
theorem sid_append_desc (sid : Sid) (m : Message) : (sid ++ m.desc : BitVec 16) = encodePayload m sid := by
  apply BitVec.eq_of_toNat_eq
  have h1 := descriptor_toNat sid m.desc
  have h2 : (encodePayload m sid).toNat = _ := payload_toNat sid m.tag m.pl
  rw [h1, h2, desc_toNat]
  omega

/-! ### Commands and words -/

/-- The eight operation codes (30_encoding.md R88, R89). -/
theorem opc_cases : ∀ opc : BitVec 3,
    opc = 0#3 ∨ opc = 1#3 ∨ opc = 2#3 ∨ opc = 3#3 ∨ opc = 4#3 ∨ opc = 5#3 ∨ opc = 6#3 ∨ opc = 7#3 := by decide

theorem decodeCommand_reset (b : BitVec 1) : decodeCommand ⟨0#3, b⟩ = .reset b := congrArg _ (BitVec.setWidth_eq (x := b))
theorem decodeCommand_tick (now : Time) : decodeCommand ⟨1#3, now⟩ = .tick now := congrArg _ (BitVec.setWidth_eq (x := now))
theorem decodeCommand_enqueue (d : Desc) : decodeCommand ⟨2#3, d⟩ = .enqueue d := congrArg _ (BitVec.setWidth_eq (x := d))
theorem decodeCommand_rxWord (w : WireWord) : decodeCommand ⟨3#3, w⟩ = .rxWord w := congrArg _ (BitVec.setWidth_eq (x := w))
theorem decodeCommand_txSlot (a : BitVec 0) : decodeCommand ⟨4#3, a⟩ = .txSlot := rfl
theorem decodeCommand_reservedOp5 (a : BitVec 32) : decodeCommand ⟨5#3, a⟩ = .reservedOp5 a :=
  congrArg _ (BitVec.setWidth_eq (x := a))
theorem decodeCommand_reservedOp6 (a : BitVec 32) : decodeCommand ⟨6#3, a⟩ = .reservedOp6 a :=
  congrArg _ (BitVec.setWidth_eq (x := a))
theorem decodeCommand_reservedOp7 (a : BitVec 32) : decodeCommand ⟨7#3, a⟩ = .reservedOp7 a :=
  congrArg _ (BitVec.setWidth_eq (x := a))

/-- The check half of a wire word put together from its halves (30_encoding.md R65). -/
theorem word_check (check : BitVec 16) (p16 : Payload) : (check ++ p16 : BitVec 32).extractLsb 31 16 = check := by
  apply BitVec.eq_of_toNat_eq
  have h1 := toNat_field (n := 32) (check ++ p16) 31 16
  have h2 : (check ++ p16 : BitVec 32).toNat = _ := toNat_concat check p16
  have := check.isLt
  have := p16.isLt
  omega

/-- The payload half of a wire word put together from its halves (30_encoding.md R65). -/
theorem word_payload (check : BitVec 16) (p16 : Payload) : (check ++ p16 : BitVec 32).extractLsb 15 0 = p16 := by
  apply BitVec.eq_of_toNat_eq
  have h1 := toNat_field (n := 32) (check ++ p16) 15 0
  have h2 : (check ++ p16 : BitVec 32).toNat = _ := toNat_concat check p16
  have := check.isLt
  have := p16.isLt
  omega

/-- A wire word is its two halves (30_encoding.md R65). -/
theorem word_eq_halves (w : WireWord) : (w.extractLsb 31 16 ++ w.extractLsb 15 0 : BitVec 32) = w := by
  apply BitVec.eq_of_toNat_eq
  have h1 := toNat_field (n := 32) w 31 16
  have h2 := toNat_field (n := 32) w 15 0
  have h3 : (w.extractLsb 31 16 ++ w.extractLsb 15 0 : BitVec 32).toNat = _ := toNat_concat (w.extractLsb 31 16) (w.extractLsb 15 0)
  have := w.isLt
  omega

namespace Machine

/-! ### The receive path -/

/-- A frame passes verification: what is received is its payload (43_receive.md R165). -/
theorem receiveWord_frame (p16 : Payload) (s : State) : receiveWord (frame s.params.crc p16) s = receivePayload p16 s := by
  simp only [receiveWord, verify_frame, if_true, frame_payload]

/-- The row of a message is the receive path of that message. -/
theorem exec_ofMessage (sid : Sid) (m : Message) (s : State) :
    exec (Instr.ofMessage sid m) s = .next (receiveMessage sid m s) := by
  cases m with
  | hello b => cases b <;> rfl
  | _ => rfl

/-- The messages the window holds take the receive path of the sequenced ones (43_receive.md R171). -/
theorem receiveMessage_windowData {m : Message} (h : isWindowData m = true) (sid : Sid) (s : State) :
    receiveMessage sid m s = receiveSequenced sid m s := by
  cases m with
  | hello b => cases b with
    | false => rfl
    | true => cases h
  | ack a => cases h
  | error a => cases h
  | _ => rfl

/-- What the receive path does with an input, and nothing else: one of its operations or no change but the result. -/
theorem received_cases (i : Instr) (s : State) :
    (∃ sid m, received s.params.crc i = some (sid, m) ∧ exec i s = .next (receiveMessage sid m s)) ∨
    (received s.params.crc i = none ∧
      ((∃ r, exec i s = .next (report r s)) ∨ (∃ b, i = .reset b) ∨ (∃ now, i = .tick now) ∨ (∃ d, i = .enqueue d) ∨ i = .txSlot)) := by
  have word : ∀ w : WireWord,
      (∃ sid m, (if verify s.params.crc w then (decodePayload (w.extractLsb 15 0)).toOption else none) = some (sid, m) ∧
        receiveWord w s = receiveMessage sid m s) ∨
      ((if verify s.params.crc w then (decodePayload (w.extractLsb 15 0)).toOption else none) = none ∧
        ∃ r, receiveWord w s = report r s) := by
    intro w
    unfold receiveWord receivePayload
    cases verify s.params.crc w with
    | false => exact .inr ⟨rfl, _, rfl⟩
    | true =>
      cases decodePayload (w.extractLsb 15 0) with
      | error e => exact .inr ⟨rfl, _, rfl⟩
      | ok x => exact .inl ⟨x.1, x.2, rfl, rfl⟩
  cases i with
  | ack sid a => exact .inl ⟨sid, .ack a, rfl, exec_ofMessage sid (.ack a) s⟩
  | error sid a => exact .inl ⟨sid, .error a, rfl, exec_ofMessage sid (.error a) s⟩
  | press sid r c => exact .inl ⟨sid, .press r c, rfl, exec_ofMessage sid (.press r c) s⟩
  | release sid r c => exact .inl ⟨sid, .release r c, rfl, exec_ofMessage sid (.release r c) s⟩
  | hello sid b => exact .inl ⟨sid, .hello b, rfl, exec_ofMessage sid (.hello b) s⟩
  | rgbChangeAnim sid n => exact .inl ⟨sid, .rgbChangeAnim n, rfl, exec_ofMessage sid (.rgbChangeAnim n) s⟩
  | rgbLayerChange sid n => exact .inl ⟨sid, .rgbLayerChange n, rfl, exec_ofMessage sid (.rgbLayerChange n) s⟩
  | reservedTag7 sid pl => exact .inr ⟨rfl, .inl ⟨_, rfl⟩⟩
  | frame check p16 =>
    have hv : verify s.params.crc (check ++ p16) = decide (check = checksum s.params.crc p16) := by
      unfold verify
      rw [word_check, word_payload]
      rfl
    have := word (check ++ p16)
    simp only [word_payload, hv, decide_eq_true_eq] at this
    rcases this with ⟨sid, m, h, e⟩ | ⟨h, r, e⟩
    · exact .inl ⟨sid, m, h, congrArg _ e⟩
    · exact .inr ⟨h, .inl ⟨r, congrArg _ e⟩⟩
  | rxWord w =>
    rcases word w with ⟨sid, m, h, e⟩ | ⟨h, r, e⟩
    · exact .inl ⟨sid, m, h, congrArg _ e⟩
    · exact .inr ⟨h, .inl ⟨r, congrArg _ e⟩⟩
  | reset b => exact .inr ⟨rfl, .inr (.inl ⟨b, rfl⟩)⟩
  | tick now => exact .inr ⟨rfl, .inr (.inr (.inl ⟨now, rfl⟩))⟩
  | enqueue d => exact .inr ⟨rfl, .inr (.inr (.inr (.inl ⟨d, rfl⟩)))⟩
  | txSlot => exact .inr ⟨rfl, .inr (.inr (.inr (.inr rfl)))⟩
  | reservedOp5 a => exact .inr ⟨rfl, .inl ⟨_, rfl⟩⟩
  | reservedOp6 a => exact .inr ⟨rfl, .inl ⟨_, rfl⟩⟩
  | reservedOp7 a => exact .inr ⟨rfl, .inl ⟨_, rfl⟩⟩

end Machine

end Sys2Proof
end

