-- ==== Sys2Proof/Laws/Crc.lean ====
section
/-! SUPPORT. The shift register of the Integrity Engine (41_integrity.md R115) as a linear map: a difference in the input runs through it by itself, and a
difference of one bit never runs out to nothing (R124). -/

namespace Sys2Proof.Machine

/-- Bit `i` of a shifted register. -/
theorem crcShift_bit (P : CrcProfile) (x : BitVec 16) (i : Nat) :
    (crcShift P x).getLsbD i =
      ((decide (i < 16) && !decide (i < 1) && x.getLsbD (i - 1)) ^^ (x.getLsbD 15 && P.poly.getLsbD i)) := by
  unfold crcShift
  cases x.getLsbD 15 <;> simp

/-- A shift takes a difference to the shift of the difference. -/
theorem crcShift_xor (P : CrcProfile) (x y : BitVec 16) : crcShift P (x ^^^ y) = crcShift P x ^^^ crcShift P y := by
  apply BitVec.eq_of_getLsbD_eq
  intro i _
  rw [BitVec.getLsbD_xor, crcShift_bit, crcShift_bit, crcShift_bit, BitVec.getLsbD_xor, BitVec.getLsbD_xor, Bool.and_xor_distrib_left,
    Bool.and_xor_distrib_right]
  simp only [Bool.xor_assoc, Bool.xor_left_comm]

theorem crcShifts_xor (P : CrcProfile) (k : Nat) (x y : BitVec 16) :
    crcShifts P k (x ^^^ y) = crcShifts P k x ^^^ crcShifts P k y := by
  induction k generalizing x y with
  | zero => rfl
  | succ k ih => simp only [crcShifts, crcShift_xor, ih]

theorem crcShifts_add (P : CrcProfile) (j k : Nat) (x : BitVec 16) : crcShifts P (j + k) x = crcShifts P k (crcShifts P j x) := by
  induction j generalizing x with
  | zero => simp [crcShifts]
  | succ j ih => rw [Nat.succ_add]; exact ih _

/-- A register that is not zero and holds nothing below the lowest term of the polynomial stays so: only a register with a bit just below that term
is shifted to zero. -/
theorem crcShift_keeps_nonzero {P : CrcProfile} {j : Nat} (hj : P.poly.getLsbD j = true) (hlow : ∀ i < j, P.poly.getLsbD i = false)
    {x : BitVec 16} (hx : x ≠ 0) (hxlow : ∀ i < j, x.getLsbD i = false) :
    crcShift P x ≠ 0 ∧ ∀ i < j, (crcShift P x).getLsbD i = false := by
  have hj16 : j < 16 := BitVec.lt_of_getLsbD hj
  constructor
  · intro h0
    have bit : ∀ i, (crcShift P x).getLsbD i = false := fun i => by rw [h0]; simp
    have top : x.getLsbD 15 = false := by
      have := bit j
      rw [crcShift_bit, hj] at this
      by_cases h : j = 0
      · simpa [h] using this
      · have hl := hxlow (j - 1) (by omega)
        simpa [hl] using this
    apply hx
    apply BitVec.eq_of_getLsbD_eq
    intro i hi
    by_cases h : i = 15
    · simpa [h] using top
    · have := bit (i + 1)
      rw [crcShift_bit, top] at this
      have h16 : i + 1 < 16 := by omega
      simpa [h16] using this
  · intro i hi
    rw [crcShift_bit, hlow i hi]
    by_cases h : i = 0
    · simp [h]
    · simp [hxlow (i - 1) (by omega)]

theorem crcShifts_keeps_nonzero {P : CrcProfile} {j : Nat} (hj : P.poly.getLsbD j = true) (hlow : ∀ i < j, P.poly.getLsbD i = false)
    (k : Nat) {x : BitVec 16} (hx : x ≠ 0) (hxlow : ∀ i < j, x.getLsbD i = false) : crcShifts P k x ≠ 0 := by
  induction k generalizing x with
  | zero => exact hx
  | succ k ih =>
    obtain ⟨h1, h2⟩ := crcShift_keeps_nonzero hj hlow hx hxlow
    exact ih h1 h2

/-- Shifted out at the top, one bit becomes the polynomial; before that it only moves up. -/
theorem crcShift_twoPow (P : CrcProfile) {i : Nat} (hi : i < 16) :
    crcShift P (BitVec.twoPow 16 i) = if i = 15 then P.poly else BitVec.twoPow 16 (i + 1) := by
  apply BitVec.eq_of_getLsbD_eq
  intro n hn
  rw [crcShift_bit]
  by_cases h : i = 15
  · subst h
    have h1 : ¬ 15 = n - 1 := by omega
    simp [h1]
  · rw [if_neg h]
    simp only [BitVec.getLsbD_twoPow]
    by_cases h2 : i + 1 = n
    · subst h2
      have : ¬ i = 15 := h
      simp [hi, hn, this]
    · by_cases h3 : n = 0
      · simp [h3, h]
      · have : ¬ i = n - 1 := by omega
        simp [this, h, h2]

/-- One bit in the register is never shifted out to nothing, if the polynomial has more than one term (R124). -/
theorem crcShifts_twoPow_ne_zero {P : CrcProfile} (hP : P.poly ≠ 0) (k : Nat) {i : Nat} (hi : i < 16) :
    crcShifts P k (BitVec.twoPow 16 i) ≠ 0 := by
  induction k generalizing i with
  | zero =>
    intro h
    have := congrArg (fun v => v.getLsbD i) h
    simp [crcShifts, hi] at this
  | succ k ih =>
    show crcShifts P k (crcShift P _) ≠ 0
    rw [crcShift_twoPow P hi]
    by_cases h : i = 15
    · rw [if_pos h]
      have hex : ∃ j, P.poly.getLsbD j = true := by
        by_contra hno
        apply hP
        apply BitVec.eq_of_getLsbD_eq
        intro n _
        simpa using fun e => hno ⟨n, e⟩
      have hmin : ∀ i < Nat.find hex, P.poly.getLsbD i = false := fun i hi => by simpa using Nat.find_min hex hi
      exact crcShifts_keeps_nonzero (Nat.find_spec hex) hmin k hP hmin
    · rw [if_neg h]
      exact ih (by omega)

/-! ### Bytes -/

/-- A difference in the register before a byte is fed runs through the byte's eight shifts. -/
theorem crcByte_xor (P : CrcProfile) (reg e : BitVec 16) (b : BitVec 8) :
    crcByte P (reg ^^^ e) b = crcByte P reg b ^^^ crcShifts P 8 e := by
  unfold crcByte
  rw [← crcShifts_xor]
  congr 1
  ac_rfl

/-- A bit of a byte, reflected or not, enters the register as one bit. -/
theorem byte_bit_enters (P : CrcProfile) {k : Nat} (hk : k < 8) : ∃ i < 16, ∀ b : BitVec 8,
    (if P.refin then reflect (b ^^^ BitVec.twoPow 8 k) else b ^^^ BitVec.twoPow 8 k).setWidth 16 <<< 8 =
      (if P.refin then reflect b else b).setWidth 16 <<< 8 ^^^ BitVec.twoPow 16 i := by
  cases P.refin with
  | false =>
    refine ⟨k + 8, by omega, fun b => ?_⟩
    interval_cases k <;> revert b <;> decide +kernel
  | true =>
    refine ⟨15 - k, by omega, fun b => ?_⟩
    interval_cases k <;> revert b <;> decide +kernel

/-- A flipped bit of a byte is a difference of one bit, shifted eight times. -/
theorem crcByte_flip (P : CrcProfile) {k : Nat} (hk : k < 8) : ∃ i < 16, ∀ (reg : BitVec 16) (b : BitVec 8),
    crcByte P reg (b ^^^ BitVec.twoPow 8 k) = crcByte P reg b ^^^ crcShifts P 8 (BitVec.twoPow 16 i) := by
  obtain ⟨i, hi, h⟩ := byte_bit_enters P hk
  refine ⟨i, hi, fun reg b => ?_⟩
  unfold crcByte
  rw [h, ← crcShifts_xor, BitVec.xor_assoc]

/-- What follows the register (reflection and `xorout`) keeps differences. -/
theorem crcOut_injective (P : CrcProfile) {x y : BitVec 16}
    (h : (if P.refout then reflect x else x) ^^^ P.xorout = (if P.refout then reflect y else y) ^^^ P.xorout) : x = y := by
  have e := congrArg (· ^^^ P.xorout) h
  simp only [BitVec.xor_assoc, BitVec.xor_self, BitVec.xor_zero] at e
  split at e
  · have := congrArg BitVec.reverse e
    simpa [reflect] using this
  · exact e

end Sys2Proof.Machine
end

