-- ==== Sys2Proof/Laws/PerInstr.lean ====
section
/-! SUPPORT. Families of statements over the instructions, one lemma for each constructor. -/

namespace Sys2Proof.Laws.TableRow

/-- The bits an instruction is encoded in are its row's: masked, they are the row's match value (spec/opcode_table.json, 30_encoding.md R65, R69 to
R76, R88, R89). -/
def Statement (i : Instr) : Prop :=
  (encodeInput i).bits &&& i.tableRow.2.1 = i.tableRow.2.2

/-- A number under a mask of 11 bits is its low 11 bits under it. -/
theorem mask_low {x mask : Nat} (k : Nat) (hx : x < 2 ^ 11) (hm : mask < 2 ^ 11) : (k * 2 ^ 11 + x) &&& mask = x &&& mask := by
  have h := Nat.and_mod_two_pow (a := k * 2 ^ 11 + x) (b := mask) (n := 11)
  rw [Nat.mod_eq_of_lt (Nat.lt_of_le_of_lt Nat.and_le_right hm), Nat.mod_eq_of_lt hm] at h
  rw [h]
  congr 1
  omega

/-- A payload's bits under a mask that leaves the header sid out. -/
theorem mask_payload (m : Message) (sid : Sid) (mask : Nat) (h : mask < 2 ^ 11) :
    (encodePayload m sid).toNat &&& mask = (m.tag.toNat * 256 + m.pl.toNat) &&& mask := by
  have h1 : (encodePayload m sid).toNat = _ := payload_toNat sid m.tag m.pl
  have := m.tag.isLt
  have := m.pl.isLt
  rw [h1, Nat.add_assoc]
  exact mask_low sid.toNat (by omega) h

/-- An operation code under the mask of its three bits. -/
theorem mask_opc (opc arg : Nat) (h : opc < 8) : (opc + 8 * arg) &&& 7 = opc := by
  have h3 : (opc + 8 * arg) &&& 7 = (opc + 8 * arg) % 2 ^ 3 := Nat.and_two_pow_sub_one_eq_mod (opc + 8 * arg) 3
  omega

theorem ack (sid s : Sid) : Statement (.ack sid s) :=
  (mask_payload (.ack s) sid 0x07E0 (by decide)).trans (by show _ = 0x0000; revert s; decide)

theorem error (sid s : Sid) : Statement (.error sid s) :=
  (mask_payload (.error s) sid 0x07E0 (by decide)).trans (by show _ = 0x0100; revert s; decide)

theorem press (sid : Sid) (r : BitVec 4) (c : BitVec 3) : Statement (.press sid r c) :=
  (mask_payload (.press r c) sid 0x0780 (by decide)).trans (by show _ = 0x0200; revert r c; decide)

theorem release (sid : Sid) (r : BitVec 4) (c : BitVec 3) : Statement (.release sid r c) :=
  (mask_payload (.release r c) sid 0x0780 (by decide)).trans (by show _ = 0x0300; revert r c; decide)

theorem hello (sid : Sid) (b : Bool) : Statement (.hello sid b) :=
  (mask_payload (.hello b) sid 0x07FE (by decide)).trans (by show _ = 0x0400; revert b; decide)

theorem rgbChangeAnim (sid : Sid) (n : BitVec 8) : Statement (.rgbChangeAnim sid n) :=
  (mask_payload (.rgbChangeAnim n) sid 0x0700 (by decide)).trans (by show _ = 0x0500; revert n; decide +kernel)

theorem rgbLayerChange (sid : Sid) (n : BitVec 8) : Statement (.rgbLayerChange sid n) :=
  (mask_payload (.rgbLayerChange n) sid 0x0700 (by decide)).trans (by show _ = 0x0600; revert n; decide +kernel)

theorem reservedTag7 (sid : Sid) (pl : BitVec 8) : Statement (.reservedTag7 sid pl) := by
  have h := payload_toNat sid 7#3 pl
  show (sid ++ 7#3 ++ pl : BitVec 16).toNat &&& 0x0700 = 0x0700
  rw [h]
  revert sid pl
  decide +kernel

theorem frame (check : BitVec 16) (p16 : Payload) : Statement (.frame check p16) := Nat.and_zero _

theorem reset (b : BitVec 1) : Statement (.reset b) := mask_opc 0 _ (by decide)
theorem tick (now : Time) : Statement (.tick now) := mask_opc 1 _ (by decide)
theorem enqueue (d : Desc) : Statement (.enqueue d) := mask_opc 2 _ (by decide)
theorem rxWord (w : WireWord) : Statement (.rxWord w) := mask_opc 3 _ (by decide)
theorem txSlot : Statement .txSlot := by unfold Statement; decide
theorem reservedOp5 (a : BitVec 32) : Statement (.reservedOp5 a) := mask_opc 5 _ (by decide)
theorem reservedOp6 (a : BitVec 32) : Statement (.reservedOp6 a) := mask_opc 6 _ (by decide)
theorem reservedOp7 (a : BitVec 32) : Statement (.reservedOp7 a) := mask_opc 7 _ (by decide)

end Sys2Proof.Laws.TableRow
end

