-- ==== Sys2Proof/Tests/Slice0.lean ====
section
/-! SUPPORT. The model's own tests. Every expected value comes from spec/95_test_vectors.md (V1.2, E6 and so on), or was worked out by hand from the rule
named, never from the model. The last part shows, for every statement with hypotheses, a state and operands that meet them all. -/

namespace Sys2Proof.Tests

open Sys2Proof.Machine

/-- An outcome is a next state with a property. -/
def goesTo (o : Host.Outcome State Fault Refusal) (p : State → Bool) : Bool :=
  match o with
  | .next t    => p t
  | .fault _   => false
  | .refused _ => false

/-- An endpoint whose link is up, just after the handshake of P1. -/
def linkUp : State := { State.reset with linkState := .connected, twBase := 1, rxCursor := 0 }

/-- An initiator in Disconnected. -/
def coldInitiator : State := { State.reset with role := .initiator }

/-- A window slot holding `Press{row:2,col:5}`. -/
def pressSlot (sent : Time) (pend : Bool) : Slot := { msg := 0x215, timeSent := sent, pend := pend }

/-- The start of the V4 vectors: sids 5, 6 and 7 outstanding, none pending, time 50. -/
def v4 : State := { linkUp with twBase := 5, twCount := 3, curTime := 50, slots := Vector.replicate 32 (pressSlot 0 false) }

/-- A full window from `tw_base` = 5 on, sent at time 0 and not pending. -/
def full : State := { v4 with twCount := 32 }

/-- The start of V5.1: sid 5 outstanding since 1000. -/
def v51 : State :=
  { linkUp with twBase := 5, twCount := 1, lastTxTime := 1000, liveRef := 1000, slots := Vector.replicate 32 (pressSlot 1000 false) }

/-- The start of V5.6: sid 2 outstanding, the liveness timer at 6000. -/
def v56 : State :=
  { linkUp with twBase := 2, twCount := 1, liveRef := 6000, lastTxTime := 6101, slots := Vector.replicate 32 (pressSlot 6101 false) }

/-- A V6.1 start: sids 30, 31, 0, 1 outstanding, 31 and 1 pending, each `Press{row:1,col:s mod 8}`. -/
def v61 : State :=
  { linkUp with
    curTime := 500, twBase := 30, twCount := 4
    slots := ((Vector.replicate 32 (pressSlot 0 false)).set 31 { msg := 0x20F, timeSent := 0, pend := true }).set 1
      { msg := 0x209, timeSent := 0, pend := true } }

/-- The start of V7.1: the next sid expected is 7. -/
def v71 : State := { linkUp with rxCursor := 6 }

/-- An initiator in Handshaking, its SYNC Hello sent (V4.10). -/
def handshaking : State :=
  { coldInitiator with
    linkState := .handshaking, twCount := 1, slots := Vector.replicate 32 { msg := 0x401, timeSent := 0, pend := false } }

/-! ### Well-formedness: what each check refuses -/

theorem test_wellFormed_refuses_ack_header :
    Instr.wellFormed .ccittFalse (.ack 7 7) = true ∧ Instr.wellFormed .ccittFalse (.ack 3 5) = false := by decide

theorem test_wellFormed_refuses_error_header :
    Instr.wellFormed .ccittFalse (.error 2 2) = true ∧ Instr.wellFormed .ccittFalse (.error 2 3) = false := by decide

theorem test_wellFormed_refuses_sync_sid :
    Instr.wellFormed .ccittFalse (.hello 0 true) = true ∧ Instr.wellFormed .ccittFalse (.hello 1 true) = false ∧
    Instr.wellFormed .ccittFalse (.hello 1 false) = true := by decide

theorem test_wellFormed_refuses_tag7 : Instr.wellFormed .ccittFalse (.reservedTag7 0 0) = false := by decide

theorem test_wellFormed_refuses_check_value :
    Instr.wellFormed .ccittFalse (.frame 0xB5C5 0x3A15) = true ∧ Instr.wellFormed .ccittFalse (.frame 0xB5C5 0x3A14) = false := by decide +kernel

theorem test_wellFormed_refuses_descriptor :
    Instr.wellFormed .ccittFalse (.enqueue 0x215) = true ∧ Instr.wellFormed .ccittFalse (.enqueue 0x007) = false ∧
    Instr.wellFormed .ccittFalse (.enqueue 0x401) = false ∧ Instr.wellFormed .ccittFalse (.enqueue 0x280) = false ∧
    Instr.wellFormed .ccittFalse (.enqueue 0x700) = false := by decide

theorem test_wellFormed_refuses_reserved_codes :
    Instr.wellFormed .ccittFalse (.reservedOp5 0) = false ∧ Instr.wellFormed .ccittFalse (.reservedOp6 0) = false ∧
    Instr.wellFormed .ccittFalse (.reservedOp7 0) = false := by decide

/-! ### Decoding: words written out from the encodings of 30_encoding.md R65 to R76 and R88, `sid`, `tag`, `pl` from the top -/

theorem test_decode_ack : decodeTableWord 16 0b00111_000_00000111 = some (.ack 7 7) := by decide
theorem test_decode_ack_header : decodeTableWord 16 0b00011_000_00000101 = some (.ack 3 5) := by decide
theorem test_decode_error : decodeTableWord 16 0b11111_001_00011111 = some (.error 31 31) := by decide
theorem test_decode_press : decodeTableWord 16 0b00111_010_0_0010_101 = some (.press 7 2 5) := by decide
theorem test_decode_release : decodeTableWord 16 0b11111_011_0_1111_111 = some (.release 31 15 7) := by decide
theorem test_decode_sync : decodeTableWord 16 0b00000_100_0000000_1 = some (.hello 0 true) := by decide
theorem test_decode_ping : decodeTableWord 16 0b00001_100_0000000_0 = some (.hello 1 false) := by decide
theorem test_decode_rgbChangeAnim : decodeTableWord 16 0b00000_101_11111111 = some (.rgbChangeAnim 0 255) := by decide
theorem test_decode_rgbLayerChange : decodeTableWord 16 0b01000_110_10100101 = some (.rgbLayerChange 8 165) := by decide
theorem test_decode_tag7 : decodeTableWord 16 0b11111_111_11111111 = some (.reservedTag7 31 255) := by decide
theorem test_decode_frame : decodeTableWord 32 0xB5C53A15 = some (.frame 0xB5C5 0x3A15) := by decide
theorem test_decode_reset : decodeTableWord 3 0b000 = some (.reset 0) := by decide
theorem test_decode_reset_initiator : decodeTableWord 8 0b00001_000 = some (.reset 1) := by decide
theorem test_decode_tick : decodeTableWord 8 0b00011_001 = some (.tick 3) := by decide
theorem test_decode_enqueue : decodeTableWord 8 0b00111_010 = some (.enqueue 7) := by decide
theorem test_decode_rxWord : decodeTableWord 8 0b00000_011 = some (.rxWord 0) := by decide
theorem test_decode_txSlot : decodeTableWord 3 0b100 = some .txSlot := by decide
theorem test_decode_reservedOp5 : decodeTableWord 3 0b101 = some (.reservedOp5 0) := by decide
theorem test_decode_reservedOp6 : decodeTableWord 3 0b110 = some (.reservedOp6 0) := by decide
theorem test_decode_reservedOp7 : decodeTableWord 3 0b111 = some (.reservedOp7 0) := by decide

/-- A reserved payload bit set makes each kind undecodable (30_encoding.md R77). -/
theorem test_decode_refuses_reserved_bits :
    decodeTableWord 16 0x0020 = none ∧ decodeTableWord 16 0x0180 = none ∧ decodeTableWord 16 0x0280 = none ∧
    decodeTableWord 16 0x0380 = none ∧ decodeTableWord 16 0x0402 = none := by decide

/-- V2.1: message, header sid, payload and descriptor. -/
theorem test_encode_V2_1 :
    encodePayload (.press 2 5) 7 = 0x3A15 ∧ (Message.press 2 5).desc = 0x215 ∧
    encodePayload (.release 2 5) 8 = 0x4315 ∧ (Message.release 2 5).desc = 0x315 ∧
    encodePayload (.error 31) 31 = 0xF91F ∧ (Message.error 31).desc = 0x11F ∧ encodePayload (.hello false) 1 = 0x0C00 := by decide

/-! ### The Integrity Engine -/

/-- V1.1. -/
theorem test_crc_V1_1 : crc16 .ccittFalse [0x31, 0x32, 0x33, 0x34, 0x35, 0x36, 0x37, 0x38, 0x39] = 0x29B1 := by decide +kernel

/-- V1.2. -/
theorem test_frame_V1_2 :
    frame .ccittFalse 0x0000 = 0x1D0F0000 ∧ frame .ccittFalse 0x3A15 = 0xB5C53A15 ∧ frame .ccittFalse 0xFB7F = 0x5D4CFB7F := by decide +kernel

/-- V1.3 and V1.4. -/
theorem test_verify_V1_3 :
    verify .ccittFalse 0x00000000 = false ∧ verify .ccittFalse 0xFFFFFFFF = false ∧ verify .ccittFalse 0x0000FFFF = true ∧
    verify .ccittFalse 0xB5C53A14 = false ∧ verify .ccittFalse 0x35C53A15 = false := by decide +kernel

/-- V1.5: the burst the default profile does not detect. -/
theorem test_burst_V1_5 : verify .ccittFalse (frame .ccittFalse 0x3A15 ^^^ 0x03731000) = true := by decide +kernel

/-! ### One step of each instruction -/

/-- V4.5: an Ack across the wrap. -/
theorem test_ack_wraps : goesTo (exec (.ack 0 0) { v4 with twBase := 30, twCount := 4 })
    (fun t => t.result == .ackApplied && t.twBase == 1 && t.twCount == 1) = true := by decide

/-- V4 and V4.7: `next_sid` is not outstanding, and a stale Ack does not refresh the liveness timer. -/
theorem test_ack_stale : goesTo (exec (.ack 8 8) v4)
    (fun t => t.result == .ackStale && t.twBase == 5 && t.twCount == 3 && t.liveRef == 0) = true := by decide

/-- V4.9. -/
theorem test_error_marks : goesTo (exec (.error 6 6) v4)
    (fun t => t.result == .errorApplied && (t.slot 6).pend && !(t.slot 5).pend && !(t.slot 7).pend && t.twCount == 3) = true := by decide

/-- V4.9. -/
theorem test_error_stale : goesTo (exec (.error 9 9) v4) (fun t => t.result == .errorStale && !(t.slot 9).pend) = true := by decide

/-- V7.1, sid 7. -/
theorem test_press_accepted : goesTo (exec (.press 7 2 5) v71)
    (fun t => t.result == .accepted && t.rxCursor == 7 && t.ctrlq == [⟨.ack, 7⟩] && t.keyPort == some (.press 2 5)) = true := by decide

/-- V7.1, sid 22. -/
theorem test_press_gap : goesTo (exec (.press 22 2 5) v71)
    (fun t => t.result == .sequenceGap && t.rxCursor == 6 && t.ctrlq == [⟨.error, 7⟩] && t.keyPort == none) = true := by decide

/-- V7.5: the sid after 31 is 0. -/
theorem test_release_wraps : goesTo (exec (.release 0 3 4) { linkUp with rxCursor := 31 })
    (fun t => t.result == .accepted && t.rxCursor == 0 && t.keyPort == some (.release 3 4)) = true := by decide

/-- V7.1, sid 23, with a Release. -/
theorem test_release_duplicate : goesTo (exec (.release 23 2 5) v71)
    (fun t => t.result == .duplicate && t.rxCursor == 6 && t.ctrlq == [⟨.ack, 6⟩] && t.keyPort == none) = true := by decide

/-- V7.2. -/
theorem test_ping_accepted : goesTo (exec (.hello 7 false) v71)
    (fun t => t.result == .accepted && t.rxCursor == 7 && t.keyPort == none && t.rgbPort == none) = true := by decide

/-- V7.6, the responder. -/
theorem test_sync_on_responder : goesTo (exec (.hello 0 true) { v4 with rxCursor := 6 })
    (fun t => t.result == .sync && t.rxCursor == 0 && t.ctrlq == [⟨.ack, 0⟩] && t.twBase == 0 && t.twCount == 1 &&
      t.slot 0 == { msg := 0x401, timeSent := 50, pend := true } && t.linkState == .handshaking) = true := by decide

/-- P2's setting: a layer change goes to the RGB collaborator. -/
theorem test_rgbLayerChange_delivered : goesTo (exec (.rgbLayerChange 1 1) linkUp)
    (fun t => t.result == .accepted && t.rgbPort == some (.layerChange 1) && t.keyPort == none) = true := by decide

/-- 43_receive.md R173, with an animation. -/
theorem test_rgbChangeAnim_delivered : goesTo (exec (.rgbChangeAnim 1 255) linkUp)
    (fun t => t.result == .accepted && t.rgbPort == some (.changeAnim 255) && t.rxCursor == 1) = true := by decide

/-- V7.3: `0x0000FFFF` verifies and is tag 7. -/
theorem test_tag7 : goesTo (exec (.rxWord 0x0000FFFF) v71) (fun t => t.result == .unknownEncoding && t.rxCursor == 6) = true := by decide +kernel

/-- V4.6: the header sid of a control frame is not read. -/
theorem test_frame_header_ignored : goesTo (exec (.frame 0xC770 0x1805) v4)
    (fun t => t.result == .ackApplied && t.twBase == 6 && t.twCount == 2) = true := by decide +kernel

/-- V8.2. -/
theorem test_reset_initiator : goesTo (exec (.reset 1) { v4 with ctrlqOverflow := true, outLeft := 1, rxCursor := 3 })
    (fun t => t.role == .initiator && t.linkState == .disconnected && t.twCount == 0 && t.rxCursor == 31 && !t.ctrlqOverflow &&
      t.outLeft == 0) = true := by decide

/-- V5.6: at 5000 ms the slot is marked and a ping goes in, and nothing times out. -/
theorem test_tick_marks_and_pings : goesTo (exec (.tick 11000) v56)
    (fun t => t.result == .tick { retransmitsMarked := 1, pingEnqueued := true } && (t.slot 2).pend && (t.slot 3).msg == 0x400 &&
      t.twCount == 2) = true := by decide

/-- V5.2: the ack timeout across the wrap of time, at 100 and at 101 ms. -/
theorem test_tick_wraps :
    goesTo (exec (.tick 0x24) { v51 with lastTxTime := 0xFFFFFFC0, liveRef := 0xFFFFFFC0,
                                         slots := Vector.replicate 32 (pressSlot 0xFFFFFFC0 false) })
      (fun t => t.result == .tick {}) = true ∧
    goesTo (exec (.tick 0x25) { v51 with lastTxTime := 0xFFFFFFC0, liveRef := 0xFFFFFFC0,
                                         slots := Vector.replicate 32 (pressSlot 0xFFFFFFC0 false) })
      (fun t => t.result == .tick { retransmitsMarked := 1 }) = true := by decide

/-- V3.3. -/
theorem test_enqueue_ok : goesTo (exec (.enqueue 0x5FF) { v4 with twCount := 2 })
    (fun t => t.result == .enqueued 7 && t.twCount == 3 && t.slot 7 == { msg := 0x5FF, timeSent := 50, pend := true }) = true := by decide

/-- V3.4: the check order. -/
theorem test_enqueue_full :
    goesTo (exec (.enqueue 0x215) full) (fun t => t.result == .windowFull && t.twCount == 32) = true ∧
    goesTo (exec (.enqueue 0x700) full) (fun t => t.result == .badMessage) = true := by decide

/-- V7.3 and V7.1: one flipped bit, and the word as it was. -/
theorem test_rxWord :
    goesTo (exec (.rxWord 0xB5C53A14) v71) (fun t => t.result == .checksumMismatch && t.ctrlq == []) = true ∧
    goesTo (exec (.rxWord 0xB5C53A15) v71) (fun t => t.result == .accepted && t.keyPort == some (.press 2 5)) = true := by decide +kernel

/-- V6.1, the first word: the control queue goes before the window. -/
theorem test_txSlot_control_first : goesTo (exec .txSlot { v61 with ctrlq := [⟨.ack, 7⟩] })
    (fun t => t.result == .word 0xE1D43807 && t.outLeft == 1 && t.ctrlq == [] && t.lastTxTime == 500) = true := by decide +kernel

/-- V6.1, the third word: sid 31 goes before sid 1. -/
theorem test_txSlot_smallest_offset : goesTo (exec .txSlot v61)
    (fun t => t.result == .word 0x10EAFA0F && t.slot 31 == { msg := 0x20F, timeSent := 500, pend := false } && (t.slot 1).pend)
      = true := by decide +kernel

/-- V8.1. -/
theorem test_reserved_codes :
    goesTo (exec (.reservedOp5 0xFFFFFFFF) v71) (fun t => t.result == .illegalOp && t.rxCursor == 6) = true ∧
    goesTo (exec (.reservedOp6 0) v71) (fun t => t.result == .illegalOp) = true ∧
    goesTo (exec (.reservedOp7 1) v71) (fun t => t.result == .illegalOp) = true := by decide

/-- A table word placed by `withFetchWord` is the first instruction after reset: TICK 0 on a responder (V5.9). -/
theorem test_placed_word_runs : goesTo (step (State.reset.withFetchWord 3 1)) (fun t => t.result == .tick {} && t.pending == []) = true := by
  decide

/-- V7.8: the ninth duplicate finds the queue full. -/
theorem test_ctrlq_overflow : goesTo (exec (.press 6 2 5) { v71 with ctrlq := List.replicate 8 ⟨.ack, 6⟩ })
    (fun t => t.result == .duplicate && t.ctrlq.length == 8 && t.ctrlqOverflow) = true := by decide

/-! ### Witnesses: a state and operands that meet the hypotheses of each statement, and each clause at the ends of its range -/

/-- `Inv` as a test. -/
def checkInv (s : State) : Bool :=
  s.params.ok && decide (s.twCount ≤ 32#6) && decide (∀ i : Sid, (s.slot i).pend = true → outstanding s i = true)
    && decide (s.ctrlq.length ≤ 8) && decide (s.linkState = .disconnected → s.twCount = 0#6 ∧ s.twBase = 0#5)
    && decide (s.linkState = .handshaking →
      s.twCount ≤ 1#6 ∧ ∀ i : Sid, outstanding s i = true → i = 0#5 ∧ (s.slot i).msg = (Message.hello true).desc)

theorem inv_of_checkInv {s : State} (h : checkInv s = true) : Inv s := by
  simp only [checkInv, Bool.and_eq_true, decide_eq_true_eq] at h
  obtain ⟨⟨⟨⟨⟨h1, h2⟩, h3⟩, h4⟩, h5⟩, h6⟩ := h
  exact ⟨h1, h2, h3, h4, h5, h6⟩

theorem witness_EncodeInvertsDecode : decodePayload 0x3A15 = .ok (7, .press 2 5) := by decide

/-- Each tag, with its reserved bits clear and, where it has any, one of them set. -/
theorem witness_DecodeByTag :
    decodePayload 0xF81F = .ok (31, .ack 31) ∧ decodePayload 0x0020 = .error .unknownEncoding ∧
    decodePayload 0xF91F = .ok (31, .error 31) ∧ decodePayload 0x0180 = .error .unknownEncoding ∧
    decodePayload 0xFA7F = .ok (31, .press 15 7) ∧ decodePayload 0x0280 = .error .unknownEncoding ∧
    decodePayload 0xFB7F = .ok (31, .release 15 7) ∧ decodePayload 0x0380 = .error .unknownEncoding ∧
    decodePayload 0x0401 = .ok (0, .hello true) ∧ decodePayload 0x0402 = .error .unknownEncoding ∧
    decodePayload 0x05FF = .ok (0, .rgbChangeAnim 255) ∧ decodePayload 0x0600 = .ok (0, .rgbLayerChange 0) ∧
    decodePayload 0xFFFF = .error .unknownEncoding := by decide

theorem witness_TableEncodeInvertsDecode :
    decodeInput (.word 0xB5C53A15) = .ok (.frame 0xB5C5 0x3A15) ∧ decodeInput (.command ⟨2, 0x215⟩) = .ok (.enqueue 0x215) := by decide

/-- A message row and the row of tag 7. -/
theorem witness_PayloadDecodesByItsTableRow :
    decodeInput (.payload 0x0401) = .ok (.hello 0 true) ∧ decodeInput (.payload 0xFFFF) = .ok (.reservedTag7 31 255) := by decide

/-- The lowest and the highest bit of either half, for the default profile and for one whose polynomial is the single term `x^15` beside `x^16`. -/
theorem witness_SingleBitFlipIsDetected :
    CrcProfile.ccittFalse.poly ≠ 0 ∧ { CrcProfile.ccittFalse with poly := 0x8000 }.poly ≠ 0 ∧ 31 < 32 ∧
    [0, 15, 16, 31].all (fun k => !verify .ccittFalse (frame .ccittFalse 0x3A15 ^^^ BitVec.twoPow 32 k)) = true ∧
    [0, 15, 16, 31].all (fun k => !verify { CrcProfile.ccittFalse with poly := 0x8000 }
      (frame { CrcProfile.ccittFalse with poly := 0x8000 } 0x3A15 ^^^ BitVec.twoPow 32 k)) = true := by decide +kernel

theorem witness_StepRunsDecodedInstruction :
    let s := State.reset.withFetchWord 3 4
    s.params.ok = true ∧ s.pending = [.command ⟨4, 0⟩] ∧ decodeInput (.command ⟨4, 0⟩) = .ok .txSlot := by decide

theorem witness_StepDiscardsUndecodablePayload :
    let s := State.reset.withFetchWord 16 0x0280
    s.params.ok = true ∧ s.pending = [.payload 0x0280] ∧ decodePayload 0x0280 = .error .unknownEncoding := by decide

theorem witness_StepWaitsForTheHost : State.reset.params.ok = true ∧ State.reset.pending = [] := by decide

/-- Both ways: `LINK_TIMEOUT` just above `PING_INTERVAL`, and equal to it. -/
theorem witness_StepAlwaysGoesOn :
    { State.reset.params with linkTimeout := 3001 }.ok = true ∧ { State.reset.params with linkTimeout := 3000 }.ok = false := by decide

theorem witness_PlacedWordRunsNext : State.reset.params.ok = true ∧ decodeTableWord 32 0x1D0F0000 = some (.frame 0x1D0F 0) := by decide

theorem witness_ResetStateIsAfterReset : State.reset.params = Params.default ∧ State.reset.pending = [] := by decide

/-- V5.6: 5001 ms after `live_ref`. -/
theorem witness_TickTimesOutTheLink :
    v56.linkState ≠ .disconnected ∧ 0 < v56.twCount ∧ v56.params.linkTimeout < 11001 - v56.liveRef := by decide

theorem witness_TickStartsTheHandshake :
    coldInitiator.linkState = .disconnected ∧ coldInitiator.role = .initiator ∧ coldInitiator.twBase = 0 ∧
    coldInitiator.twCount = 0 := by decide

theorem witness_TickOnWaitingResponder : State.reset.linkState = .disconnected ∧ State.reset.role = .responder := by decide

/-- Each of the three reasons why no ping is due: V5.5 Handshaking at 3000, V5.3 at 2999, V5.5 a full window at 3000; and slots at exactly and just
over the ack timeout (V5.1). -/
theorem witness_TickMarksOverdueSlots :
    (handshaking.linkState ≠ .disconnected ∧ 3000 - handshaking.liveRef ≤ handshaking.params.linkTimeout ∧
      handshaking.linkState = .handshaking) ∧
    (linkUp.linkState ≠ .disconnected ∧ linkUp.twCount = 0 ∧ 2999 - linkUp.lastTxTime < 3000) ∧
    (full.linkState ≠ .disconnected ∧ 3000 - full.liveRef ≤ full.params.linkTimeout ∧ 32 ≤ full.twCount) ∧
    ¬ v51.params.ackTimeout < 1100 - (v51.slot 5).timeSent ∧ v51.params.ackTimeout < 1101 - (v51.slot 5).timeSent ∧
    outstanding v51 5 = true ∧ (v51.slot 5).pend = false := by decide

/-- V5.3 at exactly 3000 ms, and with 31 outstanding and the liveness timer at exactly its bound. -/
theorem witness_TickPushesThePing :
    (linkUp.linkState = .connected ∧ linkUp.twCount = 0 ∧ 3000 ≤ 3000 - linkUp.lastTxTime ∧ linkUp.twCount < 32) ∧
    (let s := { full with twCount := 31 }
     s.linkState = .connected ∧ 5000 - s.liveRef ≤ s.params.linkTimeout ∧ 3000 ≤ 5000 - s.lastTxTime ∧ s.twCount < 32) := by decide

/-- Each end of the checks: V3.1, V3.2, V3.4, and with 31 and 32 outstanding. -/
theorem witness_EnqueueInOrder :
    Desc.isApplication 0x007 = false ∧ Desc.isApplication 0x215 = true ∧ handshaking.linkState ≠ .connected ∧
    full.linkState = .connected ∧ full.twCount = 32 ∧ ({ full with twCount := 31 } : State).twCount ≠ 32 := by decide

theorem witness_TxSlotSendsSecondCopy : { v61 with outWord := 0xE1D43807, outLeft := 1 }.outLeft = 1 := by decide

/-- Both kinds of entry. -/
theorem witness_TxSlotSendsControlFirst :
    let s := { v61 with ctrlq := [⟨.ack, 7⟩, ⟨.error, 2⟩] }
    s.outLeft = 0 ∧ s.ctrlq = ⟨.ack, 7⟩ :: [⟨.error, 2⟩] ∧ { s with ctrlq := [⟨.error, 2⟩] }.ctrlq = ⟨.error, 2⟩ :: [] := by decide

/-- Offset 1, and the last offset of a full window. -/
theorem witness_TxSlotSendsOldestPending :
    (v61.outLeft = 0 ∧ v61.ctrlq = [] ∧ 1 < v61.twCount.toNat ∧ (v61.slot (v61.twBase + BitVec.ofNat 5 1)).pend = true ∧
      ∀ j < 1, (v61.slot (v61.twBase + BitVec.ofNat 5 j)).pend = false) ∧
    (let s := { full with slots := full.slots.set 4 (pressSlot 0 true) }
     s.outLeft = 0 ∧ s.ctrlq = [] ∧ 31 < s.twCount.toNat ∧ (s.slot (s.twBase + BitVec.ofNat 5 31)).pend = true ∧
      ∀ j < 31, (s.slot (s.twBase + BitVec.ofNat 5 j)).pend = false) := by decide +kernel

theorem witness_TxSlotWithNothingToSend :
    v4.outLeft = 0 ∧ v4.ctrlq = [] ∧ ∀ i : Sid, outstanding v4 i = true → (v4.slot i).pend = false := by decide +kernel

/-- V7.3: `0x00000000`. -/
theorem witness_UnverifiedWordIsDiscarded :
    (0x00000000 : WireWord).extractLsb 31 16 ≠ checksum v71.params.crc ((0x00000000 : WireWord).extractLsb 15 0) := by decide +kernel

/-- Both cases, the second with the sids next to 0 on either side. -/
theorem witness_UndecodableWordIsDiscarded :
    decodePayload 0x0402 = .error .unknownEncoding ∧ decodePayload 0x0C01 = .ok (1, .hello true) ∧
    decodePayload 0xFC01 = .ok (31, .hello true) := by decide

theorem witness_DisconnectedIgnoresFrames :
    State.reset.linkState = .disconnected ∧ Message.ack 0 ≠ .hello true ∧ Message.hello false ≠ .hello true := by decide

/-- Outstanding: the first and the last sid of V4, and V4.10. Stale: the sids on either side of the window, and an empty window (V4.8). -/
theorem witness_AckRetiresCumulatively :
    v4.linkState ≠ .disconnected ∧ outstanding v4 5 = true ∧ outstanding v4 7 = true ∧
    handshaking.linkState = .handshaking ∧ outstanding handshaking 0 = true ∧
    outstanding v4 4 = false ∧ outstanding v4 8 = false ∧ linkUp.linkState ≠ .disconnected ∧ outstanding linkUp 0 = false := by decide

/-- A window of 3 and a full one. -/
theorem witness_AckLeavesTheRestOutstanding :
    (v4.twCount ≤ 32 ∧ v4.linkState ≠ .disconnected ∧ outstanding v4 6 = true ∧
      goesTo (exec (.ack 6 6) v4) (fun t => outstanding t 7 && !outstanding t 6) = true) ∧
    (full.twCount ≤ 32 ∧ full.linkState ≠ .disconnected ∧ outstanding full 5 = true ∧
      goesTo (exec (.ack 5 5) full) (fun t => outstanding t 6 && !outstanding t 5) = true) := by decide

/-- Both clauses, at the last outstanding sid and the next. -/
theorem witness_ErrorMarksOnlyItsSlot :
    v4.linkState ≠ .disconnected ∧ outstanding v4 7 = true ∧ outstanding v4 8 = false := by decide

theorem witness_FullWindowMisreadsNothingNew : full.linkState = .connected ∧ full.twCount = 32 := by decide

/-- In the middle of the sid space and across its end. -/
theorem witness_KeyEventsAcceptedInOrder :
    v71.linkState ≠ .disconnected ∧ 7 = v71.rxCursor + 1 ∧ 0 = ({ v71 with rxCursor := 31 } : State).rxCursor + 1 := by decide

theorem witness_RgbEventsAcceptedInOrder : linkUp.linkState ≠ .disconnected ∧ 1 = linkUp.rxCursor + 1 := by decide

theorem witness_PingAcceptedNotDelivered : v71.linkState ≠ .disconnected ∧ 7 = v71.rxCursor + 1 := by decide

/-- V7.1: distances 16 and 31. -/
theorem witness_StaleFrameIsReacknowledged :
    isWindowData (.press 2 5) = true ∧ isWindowData (.hello false) = true ∧ v71.linkState ≠ .disconnected ∧
    (23 - (v71.rxCursor + 1)).toNat = 16 ∧ (6 - (v71.rxCursor + 1)).toNat = 31 := by decide

/-- V7.1: distances 1 and 15. -/
theorem witness_GapRequestsReplay :
    isWindowData (.press 2 5) = true ∧ v71.linkState ≠ .disconnected ∧
    (8 - (v71.rxCursor + 1)).toNat = 1 ∧ (22 - (v71.rxCursor + 1)).toNat = 15 := by decide

/-- A key event and a ping, and 6 entries in the queue, where two more just fit. -/
theorem witness_DuplicateIsDeliveredOnce :
    isWindowData (.press 2 5) = true ∧ isWindowData (.hello false) = true ∧ v71.linkState ≠ .disconnected ∧ 7 = v71.rxCursor + 1 ∧
    goesTo (exec (.press 7 2 5) { v71 with ctrlq := List.replicate 6 ⟨.ack, 6⟩ })
      (fun t => t.keyPort == some (.press 2 5) && goesTo (exec (.press 7 2 5) t) (fun u => u.ctrlq.length == 8 && u.keyPort == none)) = true := by decide

theorem witness_SyncHelloOnResponder : State.reset.role = .responder ∧ v4.role = .responder := by decide

theorem witness_SyncHelloOnInitiator : coldInitiator.role = .initiator ∧ handshaking.role = .initiator := by decide

theorem witness_MisnumberedSyncHelloIsRejected : (1 : Sid) ≠ 0 ∧ (31 : Sid) ≠ 0 := by decide

/-- A handshake starts: `Inv` before, and a next state. -/
theorem witness_StepKeepsInvariants :
    Inv (coldInitiator.withFetchWord 8 1) ∧ goesTo (step (coldInitiator.withFetchWord 8 1)) (fun t => t.linkState == .handshaking) = true :=
  ⟨inv_of_checkInv (by decide +kernel), by decide⟩

/-- The window of V4 holds presses, and the output stage the frame of one. -/
theorem txInv_v4 : TxInv { v4 with outWord := 0xB5C53A15, outLeft := 1 } :=
  { inv_of_checkInv (s := { v4 with outWord := 0xB5C53A15, outLeft := 1 }) (by decide +kernel) with
    connected_data := fun _ i _ => ⟨.press 2 5, by decide, by revert i; decide +kernel⟩
    stage_conforms := fun _ => by decide +kernel }

theorem witness_StepKeepsTransmitInvariant :
    TxInv { v4 with outWord := 0xB5C53A15, outLeft := 1 } ∧
    goesTo (step { v4 with outWord := 0xB5C53A15, outLeft := 1 }) (fun t => t.outLeft == 1) = true :=
  ⟨txInv_v4, by decide⟩

theorem witness_EveryWordSentConforms :
    TxInv { v4 with outWord := 0xB5C53A15, outLeft := 1 } ∧
    goesTo (exec .txSlot { v4 with outWord := 0xB5C53A15, outLeft := 1 }) (fun t => t.result == .word 0xB5C53A15) = true :=
  ⟨txInv_v4, by decide⟩

/-- Each way the link changes: RESET, the handshake start, a SYNC Hello on a responder, the Ack of a handshake, the timeout. -/
theorem witness_LinkChangesOnlyAsListed :
    (Inv v4 ∧ goesTo (exec (.reset 0) v4) (fun t => t.linkState == .disconnected) = true) ∧
    (Inv coldInitiator ∧ goesTo (exec (.tick 0) coldInitiator) (fun t => t.linkState == .handshaking) = true) ∧
    (Inv v4 ∧ goesTo (exec (.rxWord 0xC1EA0401) v4) (fun t => t.linkState == .handshaking) = true) ∧
    (Inv handshaking ∧ goesTo (exec (.ack 0 0) handshaking) (fun t => t.linkState == .connected) = true) ∧
    (Inv v56 ∧ goesTo (exec (.tick 11001) v56) (fun t => t.linkState == .disconnected) = true) :=
  ⟨⟨inv_of_checkInv (by decide +kernel), by decide⟩, ⟨inv_of_checkInv (by decide +kernel), by decide⟩,
    ⟨inv_of_checkInv (by decide +kernel), by decide +kernel⟩, ⟨inv_of_checkInv (by decide +kernel), by decide⟩,
    ⟨inv_of_checkInv (by decide +kernel), by decide⟩⟩

/-- Each guard: an operation that is not RESET; not TICK; a receive; one that receives nothing; TX_SLOT. -/
theorem witness_OperationsKeepTheirFields :
    goesTo (exec (.tick 60) v4) (fun t => t.curTime == 60) = true ∧
    goesTo (exec (.ack 5 5) v4) (fun t => t.twBase == 6) = true ∧ received v4.params.crc (.ack 5 5) = some (5, .ack 5) ∧
    goesTo (exec (.enqueue 0x215) v4) (fun t => t.twCount == 4) = true ∧ received v4.params.crc (.enqueue 0x215) = none ∧
    goesTo (exec .txSlot v61) (fun t => t.outLeft == 1) = true ∧ received v61.params.crc .txSlot = none := by decide +kernel

/-- A delivery on either port. -/
theorem witness_OnlyInOrderFramesAreDelivered :
    goesTo (exec (.press 7 2 5) v71) (fun t => !(t.keyPort == none && t.rgbPort == none)) = true ∧
    goesTo (exec (.rgbLayerChange 1 1) linkUp) (fun t => !(t.keyPort == none && t.rgbPort == none)) = true := by decide

/-- A scheduled Ack, a scheduled Error, and an entry that was there before. -/
theorem witness_ScheduledFeedbackIsTrue :
    goesTo (exec (.press 7 2 5) v71) (fun t => t.ctrlq.contains ⟨.ack, 7⟩) = true ∧
    goesTo (exec (.press 8 2 5) { v71 with ctrlq := [⟨.ack, 6⟩] })
      (fun t => t.ctrlq.contains ⟨.error, 7⟩ && t.ctrlq.contains ⟨.ack, 6⟩) = true := by decide

/-- The bit set before, and the bit set by the ninth entry. -/
theorem witness_OverflowBitIsSticky :
    goesTo (exec (.tick 0) { v71 with ctrlqOverflow := true }) (fun t => t.ctrlqOverflow) = true ∧
    goesTo (exec (.press 6 2 5) { v71 with ctrlq := List.replicate 8 ⟨.ack, 6⟩ }) (fun t => t.ctrlqOverflow) = true ∧
    v71.ctrlqOverflow = false := by decide

/-- Two states that differ in `msg` and `time_sent` of a slot that is not outstanding and in `out_word` of an empty stage. -/
theorem witness_UnreadBitsDoNotShow :
    Agree v4 { v4 with slots := v4.slots.set 9 { msg := 0x5FF, timeSent := 77, pend := false }, outWord := 0x12345678 } ∧
    { v4 with slots := v4.slots.set 9 { msg := 0x5FF, timeSent := 77, pend := false }, outWord := 0x12345678 } ≠ v4 :=
  ⟨{ params := rfl, linkState := rfl, role := rfl, curTime := rfl, twBase := rfl, twCount := rfl, rxCursor := rfl, ctrlq := rfl
     ctrlqOverflow := rfl, outLeft := rfl, lastTxTime := rfl, liveRef := rfl, pending := rfl, result := rfl, keyPort := rfl, rgbPort := rfl
     pend := by decide +kernel, slot := by decide +kernel, outWord := by decide }, by decide⟩

theorem witness_WindowTakesExactly32 :
    linkUp.linkState = .connected ∧ linkUp.twCount = 0 ∧ (List.replicate 32 (0x215 : Desc)).length = 32 ∧
    ∀ x ∈ (0x6A5 : Desc) :: List.replicate 32 0x215, Desc.isApplication x = true := by decide

/-- The endpoints of P1: an initiator and a responder, just reset. -/
theorem witness_HandshakeConnectsBothEnds :
    coldInitiator.role = .initiator ∧ State.reset.role = .responder ∧ coldInitiator.params.crc = State.reset.params.crc ∧
    coldInitiator.linkState = .disconnected ∧ coldInitiator.twBase = 0 ∧ coldInitiator.twCount = 0 ∧ coldInitiator.ctrlq = [] ∧
    coldInitiator.outLeft = 0 ∧ State.reset.ctrlq = [] ∧ State.reset.outLeft = 0 := by decide

end Sys2Proof.Tests
end

/-! ## The family of the state: what a step can do, the invariants it keeps, and the bits it does not read -/

namespace Sys2Proof.Machine

/-! ### A step, case by case -/

theorem step_of_nil {s : State} (hok : s.params.ok = true) (hp : s.pending = []) : step s = .next s := by
  simp [step, takeInput, hok, hp]

theorem step_of_decoded {s : State} {r : Input} {rest : List Input} {i : Instr} (hok : s.params.ok = true)
    (hp : s.pending = r :: rest) (hd : decodeInput r = .ok i) : step s = exec i { s with pending := rest } := by
  simp [step, takeInput, hok, hp, hd]

theorem step_of_undecodable {s : State} {r : Input} {rest : List Input} {e : DecodeError} (hok : s.params.ok = true)
    (hp : s.pending = r :: rest) (hd : decodeInput r = .error e) :
    step s = .next (rejectUndecodable { s with pending := rest }) := by
  simp [step, takeInput, hok, hp, hd]

theorem step_of_badParams {s : State} (hok : ¬ s.params.ok = true) : step s = .refused .badConfiguration := by
  simp [step, hok]

/-- Settles O10. -/
theorem stepRunsDecodedInstruction : Obligations.StepRunsDecodedInstruction :=
  fun _ _ _ _ => step_of_decoded

/-- Settles O12. -/
theorem stepWaitsForTheHost : Obligations.StepWaitsForTheHost :=
  fun _ => step_of_nil

/-- A table word the decoder reads is presented as an input that decodes to the same instruction. -/
theorem tableInput_of_decodeTableWord {nbits w : Nat} {i : Instr} (h : decodeTableWord nbits w = some i) :
    ∃ r, tableInput nbits w = some r ∧ decodeInput r = .ok i := by
  unfold decodeTableWord at h
  cases hr : tableInput nbits w with
  | none => simp [hr] at h
  | some r =>
    cases hd : decodeInput r with
    | error e => simp [hr, hd] at h
    | ok j => exact ⟨r, rfl, by simpa [hr, hd] using h⟩

/-- Settles O14: the placed input is the first one waiting, and taking it leaves the state before the placing. -/
theorem placedWordRunsNext : Obligations.PlacedWordRunsNext := by
  intro s nbits w i hok h
  obtain ⟨r, hr, hd⟩ := tableInput_of_decodeTableWord h
  have hplaced : s.withFetchWord nbits w = presentFirst r s := by simp only [State.withFetchWord, hr]
  rw [hplaced]
  exact step_of_decoded (s := presentFirst r s) hok rfl hd

/-- Every way a step ends in a next state. -/
theorem step_next_cases {s t : State} (h : step s = .next t) :
    t = s ∨ ∃ rest, t = rejectUndecodable { s with pending := rest } ∨
      ∃ i, exec i { s with pending := rest } = .next t := by
  by_cases hok : s.params.ok = true
  · cases hp : s.pending with
    | nil =>
      rw [step_of_nil hok hp] at h
      exact .inl (Host.Outcome.next.inj h).symm
    | cons r rest =>
      cases hd : decodeInput r with
      | ok i => exact .inr ⟨rest, .inr ⟨i, step_of_decoded hok hp hd ▸ h⟩⟩
      | error e =>
        rw [step_of_undecodable hok hp hd] at h
        exact .inr ⟨rest, .inl (Host.Outcome.next.inj h).symm⟩
  · rw [step_of_badParams hok] at h
    cases h

/-! ### Everything an instruction can do -/

/-- Every end of the receive path for the message `m` under the header sid `sid`, with what leads to it (43_receive.md R167 to R175). -/
inductive ReceiveEnd (s : State) : Sid → Message → State → Prop
  | unchanged {sid m} (r : Result) : ReceiveEnd s sid m (report r s)
  | handshakeAcked {sid a} (hl : s.linkState = .handshaking) (ho : outstanding s a = true) :
      ReceiveEnd s sid (.ack a) (report .ackApplied (handshakeComplete (retireThrough a s)))
  | windowAcked {sid a} (hl : s.linkState = .connected) (ho : outstanding s a = true) :
      ReceiveEnd s sid (.ack a) (report .ackApplied (retireThrough a s))
  | replayMarked {sid a} (hl : s.linkState ≠ .disconnected) (ho : outstanding s a = true) :
      ReceiveEnd s sid (.error a) (report .errorApplied (markPending a s))
  | initiatorSynced (hr : s.role = .initiator) :
      ReceiveEnd s 0#5 (.hello true) (report .sync (ctrlSchedule .ack 0#5 (moveCursor 0#5 s)))
  | responderSynced (hr : s.role = .responder) :
      ReceiveEnd s 0#5 (.hello true) (report .sync (txResync (ctrlSchedule .ack 0#5 (moveCursor 0#5 s))))
  | accepted {sid m} (hm : isWindowData m = true) (hl : s.linkState ≠ .disconnected) (hd : forwardDistance s sid = 0#5) :
      ReceiveEnd s sid m (accept sid m s)
  | duplicate {sid m} (hm : isWindowData m = true) (hl : s.linkState ≠ .disconnected)
      (hd : Config.aheadMax < forwardDistance s sid) :
      ReceiveEnd s sid m (report .duplicate (ctrlSchedule .ack s.rxCursor s))
  | gap {sid m} (hm : isWindowData m = true) (hl : s.linkState ≠ .disconnected)
      (h0 : forwardDistance s sid ≠ 0#5) (hd : forwardDistance s sid ≤ Config.aheadMax) :
      ReceiveEnd s sid m (report .sequenceGap (ctrlSchedule .error (expectedSid s) s))

theorem receiveSequenced_end {m : Message} (hm : isWindowData m = true) (sid : Sid) (s : State) :
    ReceiveEnd s sid m (receiveSequenced sid m s) := by
  unfold receiveSequenced
  split
  · exact .unchanged _
  next hl =>
    split
    next h0 => exact .accepted hm hl h0
    next h0 =>
      split
      next hd => exact .duplicate hm hl hd
      next hd => exact .gap hm hl h0 (BitVec.not_lt.mp hd)

theorem receiveAck_end (sid a : Sid) (s : State) : ReceiveEnd s sid (.ack a) (receiveAck a s) := by
  unfold receiveAck onAck
  cases hl : s.linkState with
  | disconnected => exact .unchanged _
  | handshaking =>
    cases ho : outstanding s a with
    | false => exact .unchanged _
    | true => exact .handshakeAcked hl ho
  | connected =>
    cases ho : outstanding s a with
    | false => exact .unchanged _
    | true => exact .windowAcked hl ho

theorem receiveError_end (sid a : Sid) (s : State) : ReceiveEnd s sid (.error a) (receiveError a s) := by
  unfold receiveError onError
  split
  · exact .unchanged _
  next hl =>
    split
    next ho => exact .replayMarked hl ho
    next => exact .unchanged _

theorem receiveSync_end (sid : Sid) (s : State) : ReceiveEnd s sid (.hello true) (receiveSync sid s) := by
  unfold receiveSync
  split
  next h0 =>
    subst h0
    cases hr : s.role with
    | responder => exact .responderSynced hr
    | initiator => exact .initiatorSynced hr
  next => exact .unchanged _

theorem receiveMessage_end (sid : Sid) (m : Message) (s : State) : ReceiveEnd s sid m (receiveMessage sid m s) := by
  cases m with
  | ack a => exact receiveAck_end sid a s
  | error a => exact receiveError_end sid a s
  | hello sync =>
    cases sync with
    | true => exact receiveSync_end sid s
    | false => exact receiveSequenced_end rfl sid s
  | press r c => exact receiveSequenced_end rfl sid s
  | release r c => exact receiveSequenced_end rfl sid s
  | rgbChangeAnim n => exact receiveSequenced_end rfl sid s
  | rgbLayerChange n => exact receiveSequenced_end rfl sid s

/-- Every end of every instruction, with what leads to it. In a TICK the time is latched first (42_transmit.md R145). -/
inductive ExecEnd (s : State) : Instr → State → Prop
  | unchanged {i} (r : Result) : ExecEnd s i (report r s)
  | receive {i sid m t} (hm : received s.params.crc i = some (sid, m)) (ht : ReceiveEnd s sid m t) : ExecEnd s i t
  | reset (b : BitVec 1) : ExecEnd s (.reset b) (resetBlock b s)
  | linkTimedOut (now : Time) (h : linkTimedOut (latchTime now s) = true) :
      ExecEnd s (.tick now) (report (.tick { linkTimeout := true }) (linkReset (latchTime now s)))
  | handshakeStarted (now : Time) (hl : s.linkState = .disconnected) (hr : s.role = .initiator) :
      ExecEnd s (.tick now) (report (.tick { handshakeStarted := true }) (handshakeStart (latchTime now s)))
  | timeLatched (now : Time) (hl : s.linkState = .disconnected) (hr : s.role ≠ .initiator) :
      ExecEnd s (.tick now) (report (.tick {}) (latchTime now s))
  | pinged (now : Time) (r : Result) (hl : s.linkState = .connected) (hc : s.twCount < Config.windowCap) :
      ExecEnd s (.tick now) (report r (pushPing (markOverdue (latchTime now s))))
  | marked (now : Time) (r : Result) (hl : s.linkState ≠ .disconnected) :
      ExecEnd s (.tick now) (report r (markOverdue (latchTime now s)))
  | enqueued {desc m} (r : Result) (hm : m.isApplication = true) (hl : s.linkState = .connected)
      (hc : s.twCount ≠ Config.windowCap) : ExecEnd s (.enqueue desc) (report r (twPush m s))
  | secondCopySent (ho : s.outLeft = 1#1) : ExecEnd s .txSlot (report (.word s.outWord) { s with outLeft := 0#1 })
  | controlSent {e rest} (ho : s.outLeft = 0#1) (hq : s.ctrlq = e :: rest) :
      ExecEnd s .txSlot (sendFrame e.payload { s with ctrlq := rest })
  | slotSent {sid} (ho : s.outLeft = 0#1) (hq : s.ctrlq = []) (hf : firstPending s = some sid) :
      ExecEnd s .txSlot
        (sendFrame (slotPayload s sid) (setSlot sid { s.slot sid with pend := false, timeSent := s.curTime } s))

/-- What the ping condition asks of the link and the window (42_transmit.md R147). -/
theorem room_of_pingDue {s : State} (h : pingDue s = true) : s.linkState = .connected ∧ s.twCount < Config.windowCap := by
  simp only [pingDue, Bool.and_eq_true, decide_eq_true_eq] at h
  obtain ⟨⟨hl, -⟩, hc⟩ := h
  exact ⟨hl, hc⟩

theorem execTick_end (now : Time) (s : State) : ExecEnd s (.tick now) (tickBody (latchTime now s)) := by
  rcases tickBody_cases (latchTime now s) with ⟨h, e⟩ | ⟨hl, hr, e⟩ | ⟨hl, hr, e⟩ | ⟨-, -, hp, e⟩ | ⟨-, hl, -, e⟩ <;> rw [e]
  · exact .linkTimedOut now h
  · exact .handshakeStarted now hl hr
  · exact .timeLatched now hl hr
  · exact .pinged now _ (room_of_pingDue hp).1 (room_of_pingDue hp).2
  · exact .marked now _ hl

theorem execEnqueue_end {desc : Desc} {s t : State} (h : execEnqueue desc s = .next t) : ExecEnd s (.enqueue desc) t := by
  rcases execEnqueue_cases desc s with ⟨-, e⟩ | ⟨-, -, e⟩ | ⟨-, -, -, e⟩ | ⟨hl, hc, _, m, -, hm, -, e⟩ <;>
    obtain rfl := Host.Outcome.next.inj (e.symm.trans h)
  · exact .unchanged _
  · exact .unchanged _
  · exact .unchanged _
  · exact .enqueued _ hm hl hc

theorem execTxSlot_end {s t : State} (h : execTxSlot s = .next t) : ExecEnd s .txSlot t := by
  rcases execTxSlot_cases s with ⟨ho, e⟩ | ⟨ho, _, _, hq, e⟩ | ⟨ho, hq, _, hf, e⟩ | ⟨-, -, -, e⟩ <;>
    obtain rfl := Host.Outcome.next.inj (e.symm.trans h)
  · exact .secondCopySent ho
  · exact .controlSent ho hq
  · exact .slotSent ho hq hf
  · exact .unchanged _

/-- An instruction that goes on has gone on in one of these ways. -/
theorem exec_end {i : Instr} {s t : State} (h : exec i s = .next t) : ExecEnd s i t := by
  rcases received_cases i s with ⟨sid, m, hm, e⟩ | ⟨-, ⟨r, e⟩ | ⟨b, rfl⟩ | ⟨now, rfl⟩ | ⟨desc, rfl⟩ | rfl⟩
  · obtain rfl := Host.Outcome.next.inj (e.symm.trans h)
    exact .receive hm (receiveMessage_end sid m s)
  · obtain rfl := Host.Outcome.next.inj (e.symm.trans h)
    exact .unchanged r
  · obtain rfl := Host.Outcome.next.inj h
    exact .reset b
  · obtain rfl := Host.Outcome.next.inj h
    exact execTick_end now s
  · exact execEnqueue_end h
  · exact execTxSlot_end h

/-- A property of the state that neither the waiting inputs nor the ports enter is kept by every step if every instruction keeps it. -/
theorem step_keeps {I : State → Prop} (hpending : ∀ {s} rest, I s → I { s with pending := rest })
    (hreport : ∀ {s} r, I s → I (report r s)) (hexec : ∀ {i s t}, I s → ExecEnd s i t → I t) {s t : State} (hs : I s)
    (h : step s = .next t) : I t := by
  rcases step_next_cases h with rfl | ⟨rest, rfl | ⟨i, hi⟩⟩
  · exact hs
  · exact hreport _ (hpending rest hs)
  · exact hexec (hpending rest hs) (exec_end hi)

/-! ### What is outstanding after a push and after a retirement -/

/-- A push makes `next_sid` outstanding and nothing else, also where the count would wrap (42_transmit.md R131 to R133). -/
theorem outstanding_of_twPush {m : Message} {s : State} {i : Sid} (h : outstanding (twPush m s) i = true) :
    i = nextSid s ∨ outstanding s i = true := by
  rw [outstanding_iff, twPush_twBase, twPush_twCount] at h
  rw [outstanding_iff, nextSid]
  by_cases hi : (i - s.twBase).toNat < s.twCount.toNat
  · exact .inr hi
  · refine .inl ?_
    bv_omega

/-- While there is room, what was outstanding stays so after a push, and `next_sid` joins it (42_transmit.md R133). -/
theorem outstanding_twPush {s : State} (hc : s.twCount < 32#6) (m : Message) (i : Sid) :
    outstanding (twPush m s) i = true ↔ i = nextSid s ∨ outstanding s i = true := by
  refine ⟨outstanding_of_twPush, ?_⟩
  rw [outstanding_iff, outstanding_iff, twPush_twBase, twPush_twCount, nextSid]
  rintro (rfl | h) <;> bv_omega

/-- A retirement makes nothing outstanding, also where the count is beyond 32 (42_transmit.md R137). -/
theorem outstanding_of_retireThrough {a i : Sid} {s : State} (ha : outstanding s a = true)
    (h : outstanding (retireThrough a s) i = true) : outstanding s i = true := by
  rw [outstanding_iff] at ha h ⊢
  rw [retireThrough_twBase, retireThrough_twCount, offset] at h
  bv_omega

/-- After a retirement exactly the outstanding sids beyond the one acknowledged are outstanding (42_transmit.md R137, R138). -/
theorem outstanding_retireThrough {a : Sid} {s : State} (hc : s.twCount ≤ 32#6) (ha : outstanding s a = true) (i : Sid) :
    outstanding (retireThrough a s) i = true ↔ outstanding s i = true ∧ offset s a < offset s i := by
  rw [outstanding_iff] at ha
  rw [outstanding_iff, outstanding_iff, retireThrough_twBase, retireThrough_twCount, offset, offset]
  bv_omega

theorem twCount_retireThrough_le {a : Sid} {s : State} (ha : outstanding s a = true) :
    (retireThrough a s).twCount ≤ s.twCount := by
  rw [outstanding_iff] at ha
  rw [retireThrough_twCount, offset]
  bv_omega

/-! ### The invariants of 10_state.md R42 -/

/-- What the invariants read of the parameters, the link and the window is the same in both states: all but the pending bits. -/
structure SameWindow (s t : State) : Prop where
  params    : t.params = s.params
  linkState : t.linkState = s.linkState
  twBase    : t.twBase = s.twBase
  twCount   : t.twCount = s.twCount
  msg       : ∀ i : Sid, (t.slot i).msg = (s.slot i).msg

theorem SameWindow.outstanding_eq {s t : State} (h : SameWindow s t) (i : Sid) : outstanding t i = outstanding s i :=
  outstanding_congr h.twBase h.twCount i

theorem sameWindow_of_slots {s t : State} (hp : t.params = s.params) (hl : t.linkState = s.linkState)
    (hb : t.twBase = s.twBase) (hc : t.twCount = s.twCount) (hs : t.slots = s.slots) : SameWindow s t :=
  ⟨hp, hl, hb, hc, fun i => by rw [slot_congr hs]⟩

theorem sameWindow_markPending (a : Sid) (s : State) : SameWindow s (markPending a s) := by
  refine ⟨rfl, rfl, rfl, rfl, fun i => ?_⟩
  rw [markPending_slot]
  split
  next h => subst h; rfl
  next => rfl

theorem sameWindow_markOverdue (s : State) : SameWindow s (markOverdue s) := by
  refine ⟨rfl, rfl, rfl, rfl, fun i => ?_⟩
  rw [markOverdue_slot]
  split <;> rfl

theorem sameWindow_slotSent (p16 : Payload) (sid : Sid) (s : State) :
    SameWindow s (sendFrame p16 (setSlot sid { s.slot sid with pend := false, timeSent := s.curTime } s)) := by
  refine ⟨rfl, rfl, rfl, rfl, fun i => ?_⟩
  rw [sendFrame_slot, setSlot_slot]
  split
  next h => subst h; rfl
  next => rfl

section
variable {s t : State}

theorem Inv.of_sameWindow (hs : Inv s) (h : SameWindow s t) (hq : t.ctrlq.length ≤ Config.ctrlqDepth)
    (hp : ∀ i : Sid, (t.slot i).pend = true → outstanding s i = true) : Inv t where
  params_ok := h.params ▸ hs.params_ok
  count_le := h.twCount ▸ hs.count_le
  pend_outstanding := fun i hi => h.outstanding_eq i ▸ hp i hi
  ctrlq_length := hq
  disconnected_empty := by
    rw [h.linkState, h.twCount, h.twBase]
    exact hs.disconnected_empty
  handshaking_sync := by
    rw [h.linkState, h.twCount]
    simp only [h.outstanding_eq, h.msg]
    exact hs.handshaking_sync

/-- Writes beside the parameters, the link, the window and the control queue do not touch `Inv`. -/
theorem Inv.of_slots (hs : Inv s) (h : SameWindow s t) (hsl : t.slots = s.slots) (hq : t.ctrlq = s.ctrlq) : Inv t :=
  hs.of_sameWindow h (hq ▸ hs.ctrlq_length) fun i hi => hs.pend_outstanding i (slot_congr hsl i ▸ hi)

theorem Inv.report (hs : Inv s) (r : Result) : Inv (report r s) :=
  hs.of_slots (sameWindow_of_slots rfl rfl rfl rfl rfl) rfl rfl

theorem Inv.withPending (hs : Inv s) (rest : List Input) : Inv { s with pending := rest } :=
  hs.of_slots (sameWindow_of_slots rfl rfl rfl rfl rfl) rfl rfl

theorem Inv.latchTime (hs : Inv s) (now : Time) : Inv (latchTime now s) :=
  hs.of_slots (sameWindow_of_slots rfl rfl rfl rfl rfl) rfl rfl

theorem Inv.moveCursor (hs : Inv s) (sid : Sid) : Inv (moveCursor sid s) :=
  hs.of_slots (sameWindow_of_slots rfl rfl rfl rfl rfl) rfl rfl

theorem Inv.ctrlSchedule (hs : Inv s) (k : CtrlKind) (sid : Sid) : Inv (ctrlSchedule k sid s) :=
  hs.of_sameWindow (sameWindow_of_slots rfl rfl rfl rfl rfl) (queueAfter_length_le hs.ctrlq_length _) hs.pend_outstanding

theorem Inv.accept (hs : Inv s) (sid : Sid) (m : Message) : Inv (accept sid m s) :=
  ((hs.moveCursor sid).ctrlSchedule .ack sid).of_slots (sameWindow_of_slots rfl rfl rfl rfl rfl) rfl rfl

theorem Inv.markPending (hs : Inv s) {a : Sid} (ha : outstanding s a = true) : Inv (markPending a s) := by
  refine hs.of_sameWindow (sameWindow_markPending a s) hs.ctrlq_length fun i hi => ?_
  rw [markPending_slot] at hi
  split at hi
  next h => exact h ▸ ha
  next => exact hs.pend_outstanding i hi

/-- A slot the ack timeout marks is outstanding (42_transmit.md R146). -/
theorem outstanding_of_overdue {i : Sid} (h : overdue s i = true) : outstanding s i = true := by
  simp only [overdue, Bool.and_eq_true] at h
  obtain ⟨⟨ho, -⟩, -⟩ := h
  exact ho

theorem Inv.markOverdue (hs : Inv s) : Inv (markOverdue s) := by
  refine hs.of_sameWindow (sameWindow_markOverdue s) hs.ctrlq_length fun i hi => ?_
  rw [markOverdue_slot] at hi
  split at hi
  next h => exact outstanding_of_overdue h
  next => exact hs.pend_outstanding i hi

theorem Inv.controlSent (hs : Inv s) {e : CtrlEntry} {rest : List CtrlEntry} (hq : s.ctrlq = e :: rest) (p16 : Payload) :
    Inv (sendFrame p16 { s with ctrlq := rest }) := by
  refine hs.of_sameWindow (sameWindow_of_slots rfl rfl rfl rfl rfl) ?_ hs.pend_outstanding
  have := hs.ctrlq_length
  rw [hq, List.length_cons] at this
  exact Nat.le_of_succ_le this

theorem Inv.slotSent (hs : Inv s) (p16 : Payload) (sid : Sid) :
    Inv (sendFrame p16 (setSlot sid { s.slot sid with pend := false, timeSent := s.curTime } s)) := by
  refine hs.of_sameWindow (sameWindow_slotSent p16 sid s) hs.ctrlq_length fun i hi => ?_
  rw [sendFrame_slot, setSlot_slot] at hi
  split at hi
  · cases hi
  · exact hs.pend_outstanding i hi

theorem twCount_twPush_le (hc : s.twCount < 32#6) (m : Message) : (twPush m s).twCount ≤ 32#6 := by
  rw [twPush_twCount]
  bv_omega

theorem Inv.pend_twPush (hs : Inv s) (hc : s.twCount < 32#6) (m : Message) (i : Sid)
    (hi : ((twPush m s).slot i).pend = true) : outstanding (twPush m s) i = true := by
  rw [twPush_slot] at hi
  rw [outstanding_twPush hc]
  split at hi
  next h => exact .inl h.symm
  next => exact .inr (hs.pend_outstanding i hi)

theorem Inv.twPush (hs : Inv s) (hl : s.linkState = .connected) (hc : s.twCount < 32#6) (m : Message) : Inv (twPush m s) where
  params_ok := hs.params_ok
  count_le := twCount_twPush_le hc m
  pend_outstanding := hs.pend_twPush hc m
  ctrlq_length := hs.ctrlq_length
  disconnected_empty := fun h => by cases hl.symm.trans h
  handshaking_sync := fun h => by cases hl.symm.trans h

theorem Inv.pushPing (hs : Inv s) (hl : s.linkState = .connected) (hc : s.twCount < 32#6) : Inv (pushPing s) :=
  (hs.twPush hl hc (.hello false)).of_slots (sameWindow_of_slots rfl rfl rfl rfl rfl) rfl rfl

/-- The handshake's push goes to sid 0 of an empty window (44_link.md R186). -/
theorem Inv.handshakeStart (hs : Inv s) (hl : s.linkState = .disconnected) : Inv (handshakeStart s) := by
  obtain ⟨hc, hb⟩ := hs.disconnected_empty hl
  have hroom : s.twCount < 32#6 := by rw [hc]; decide
  have hnext : nextSid s = 0#5 := by simp [nextSid, hb, hc]
  have honly : ∀ i, outstanding (Machine.twPush (.hello true) s) i = true → i = 0#5 := fun i hi =>
    match outstanding_of_twPush hi with
    | .inl h => h.trans hnext
    | .inr h => absurd h (by simp [outstanding_of_count_zero hc])
  exact {
    params_ok := hs.params_ok
    count_le := twCount_twPush_le hroom (.hello true)
    pend_outstanding := hs.pend_twPush hroom (.hello true)
    ctrlq_length := hs.ctrlq_length
    disconnected_empty := nofun
    handshaking_sync := fun _ => by
      refine ⟨by rw [handshakeStart_twCount, hc]; decide, fun i hi => ⟨honly i hi, ?_⟩⟩
      rw [handshakeStart_slot, twPush_slot, if_pos (hnext.trans (honly i hi).symm)] }

/-- A state in Disconnected with nothing pending in an empty window at 0 meets `Inv` whatever came before (44_link.md R186). -/
theorem inv_of_disconnected (hok : t.params.ok = true) (hl : t.linkState = .disconnected) (hc : t.twCount = 0#6)
    (hb : t.twBase = 0#5) (hq : t.ctrlq = []) (hp : ∀ i : Sid, (t.slot i).pend = false) : Inv t where
  params_ok := hok
  count_le := by rw [hc]; decide
  pend_outstanding := fun i hi => by cases (hp i).symm.trans hi
  ctrlq_length := by rw [hq]; decide
  disconnected_empty := fun _ => ⟨hc, hb⟩
  handshaking_sync := fun h => by cases hl.symm.trans h

theorem Inv.linkReset (hs : Inv s) : Inv (linkReset s) :=
  inv_of_disconnected hs.params_ok rfl rfl rfl rfl fun i => by rw [linkReset_slot]

theorem Inv.resetBlock (hs : Inv s) (b : BitVec 1) : Inv (resetBlock b s) :=
  inv_of_disconnected hs.params_ok rfl rfl rfl rfl fun i => by rw [resetBlock_slot]

/-- After a tx resync sid 0, where the SYNC Hello is, and no other is outstanding (44_link.md R190). -/
theorem outstanding_txResync (s : State) (i : Sid) : outstanding (txResync s) i = true ↔ i = 0#5 := by
  rw [outstanding_iff, txResync_twBase, txResync_twCount]
  bv_omega

theorem Inv.txResync (hs : Inv s) : Inv (txResync s) where
  params_ok := hs.params_ok
  count_le := by rw [txResync_twCount]; decide
  pend_outstanding := fun i hi => by
    rw [txResync_slot] at hi
    split at hi
    next h => exact (outstanding_txResync s i).mpr h.symm
    next => cases hi
  ctrlq_length := hs.ctrlq_length
  disconnected_empty := nofun
  handshaking_sync := fun _ => by
    refine ⟨by rw [txResync_twCount]; decide, fun i hi => ?_⟩
    rw [outstanding_txResync] at hi
    exact ⟨hi, by rw [txResync_slot, if_pos hi.symm]⟩

theorem Inv.retireThrough (hs : Inv s) {a : Sid} (hl : s.linkState ≠ .disconnected) (ha : outstanding s a = true) :
    Inv (retireThrough a s) where
  params_ok := hs.params_ok
  count_le := BitVec.le_trans (twCount_retireThrough_le ha) hs.count_le
  pend_outstanding := fun i hi => by
    rw [retireThrough_slot] at hi
    split at hi
    · cases hi
    next h => exact (outstanding_retireThrough hs.count_le ha i).mpr ⟨hs.pend_outstanding i hi, BitVec.not_le.mp h⟩
  ctrlq_length := hs.ctrlq_length
  disconnected_empty := fun h => absurd h hl
  handshaking_sync := fun h => by
    obtain ⟨hc, hm⟩ := hs.handshaking_sync h
    refine ⟨BitVec.le_trans (twCount_retireThrough_le ha) hc, fun i hi => ?_⟩
    obtain ⟨h0, hmsg⟩ := hm i (outstanding_of_retireThrough ha hi)
    refine ⟨h0, ?_⟩
    rw [retireThrough_slot]
    split <;> exact hmsg

/-- Connected asks nothing of the window beyond what every link state asks. -/
theorem Inv.handshakeComplete (hs : Inv s) : Inv (handshakeComplete s) :=
  { hs with disconnected_empty := nofun, handshaking_sync := nofun }

theorem Inv.receiveEnd (hs : Inv s) {sid : Sid} {m : Message} (h : ReceiveEnd s sid m t) : Inv t := by
  cases h with
  | unchanged r => exact hs.report r
  | handshakeAcked hl ho => exact ((hs.retireThrough (by rw [hl]; nofun) ho).handshakeComplete).report _
  | windowAcked hl ho => exact (hs.retireThrough (by rw [hl]; nofun) ho).report _
  | replayMarked hl ho => exact (hs.markPending ho).report _
  | initiatorSynced => exact ((hs.moveCursor _).ctrlSchedule _ _).report _
  | responderSynced => exact ((hs.moveCursor _).ctrlSchedule _ _).txResync.report _
  | accepted => exact hs.accept sid m
  | duplicate => exact (hs.ctrlSchedule _ _).report _
  | gap => exact (hs.ctrlSchedule _ _).report _

theorem Inv.execEnd (hs : Inv s) {i : Instr} (h : ExecEnd s i t) : Inv t := by
  cases h with
  | unchanged r => exact hs.report r
  | receive _ ht => exact hs.receiveEnd ht
  | reset b => exact hs.resetBlock b
  | linkTimedOut now => exact (hs.latchTime now).linkReset.report _
  | handshakeStarted now hl => exact ((hs.latchTime now).handshakeStart hl).report _
  | timeLatched now => exact (hs.latchTime now).report _
  | pinged now r hl hc => exact ((hs.latchTime now).markOverdue.pushPing hl hc).report r
  | marked now r => exact (hs.latchTime now).markOverdue.report r
  | enqueued r _ hl hc => exact (hs.twPush hl (BitVec.lt_of_le_ne hs.count_le hc) _).report r
  | secondCopySent => exact hs.of_slots (sameWindow_of_slots rfl rfl rfl rfl rfl) rfl rfl
  | controlSent _ hq => exact hs.controlSent hq _
  | slotSent => exact hs.slotSent _ _

end

/-- Settles O47: every end of every instruction keeps `Inv`. -/
theorem stepKeepsInvariants : Obligations.StepKeepsInvariants :=
  fun _ _ => step_keeps (fun rest hs => hs.withPending rest) (fun r hs => hs.report r) fun hs => hs.execEnd

/-! ### What the window holds in Connected, and what the output stage holds -/

/-- The receive path leaves the parameters, the inputs, the role, the time and the output stage alone (10_state.md R39). -/
theorem ReceiveEnd.keeps {s t : State} {sid : Sid} {m : Message} (h : ReceiveEnd s sid m t) :
    t.params = s.params ∧ t.pending = s.pending ∧ t.role = s.role ∧ t.curTime = s.curTime ∧
    t.outLeft = s.outLeft ∧ t.outWord = s.outWord ∧ t.lastTxTime = s.lastTxTime := by
  cases h <;> simp [accept]

theorem decodePayload_encodePayload (m : Message) (sid : Sid) : decodePayload (encodePayload m sid) = .ok (sid, m) := by
  unfold decodePayload encodePayload
  rw [payload_tag, payload_pl, payload_sid, decodeFields_message]

/-- The frame of a well-formed message instruction conforms (41_integrity.md R118, R119; 30_encoding.md R79, R80). -/
theorem conformingWord_frame {P : CrcProfile} {m : Message} {sid : Sid} (h : (Instr.ofMessage sid m).wellFormed P = true) :
    conformingWord P (frame P (encodePayload m sid)) = true := by
  simp only [conformingWord, verify_frame, frame_payload, decodePayload_encodePayload, h, Bool.and_self]

/-- A queued entry's payload names its sid twice (42_transmit.md R158). -/
theorem conformingWord_ctrlEntry (P : CrcProfile) (e : CtrlEntry) : conformingWord P (frame P e.payload) = true := by
  obtain ⟨kind, sid⟩ := e
  cases kind <;> exact conformingWord_frame (beq_self_eq_true sid)

/-- What the window holds while Connected is well-formed under any header sid. -/
theorem wellFormed_windowData {m : Message} (h : isWindowData m = true) (P : CrcProfile) (sid : Sid) :
    (Instr.ofMessage sid m).wellFormed P = true := by
  cases m with
  | hello sync =>
    cases sync with
    | false => rfl
    | true => cases h
  | ack a => cases h
  | error a => cases h
  | _ => rfl

section
variable {s t : State}

/-- A slot outstanding holds a message that is well-formed under the slot's sid, in either link state that has one. -/
theorem TxInv.outstanding_wellFormed (hs : TxInv s) {i : Sid} (ho : outstanding s i = true) (P : CrcProfile) :
    ∃ m : Message, (Instr.ofMessage i m).wellFormed P = true ∧ (s.slot i).msg = m.desc := by
  cases hl : s.linkState with
  | disconnected =>
    rw [outstanding_of_count_zero (hs.disconnected_empty hl).1] at ho
    cases ho
  | handshaking =>
    obtain ⟨rfl, hmsg⟩ := (hs.handshaking_sync hl).2 i ho
    exact ⟨.hello true, rfl, hmsg⟩
  | connected =>
    obtain ⟨m, hm, hmsg⟩ := hs.connected_data hl i ho
    exact ⟨m, wellFormed_windowData hm P i, hmsg⟩

theorem TxInv.conformingWord_slot (hs : TxInv s) {i : Sid} (ho : outstanding s i = true) (P : CrcProfile) :
    conformingWord P (frame P (slotPayload s i)) = true := by
  obtain ⟨m, hm, hmsg⟩ := hs.outstanding_wellFormed ho P
  rw [slotPayload, hmsg, sid_append_desc]
  exact conformingWord_frame hm

/-- The output stage, when it holds a word, holds a conforming one. -/
def StageConforms (s : State) : Prop :=
  s.outLeft ≠ 0#1 → conformingWord s.params.crc s.outWord = true

theorem TxInv.stage_execEnd (hs : TxInv s) {i : Instr} (h : ExecEnd s i t) : StageConforms t := by
  have hstage : StageConforms s := hs.stage_conforms
  cases h with
  | unchanged r => exact hstage
  | receive _ ht =>
    obtain ⟨hp, -, -, -, hleft, hword, -⟩ := ht.keeps
    unfold StageConforms
    rw [hp, hleft, hword]
    exact hstage
  | reset b => exact fun h => absurd rfl h
  | linkTimedOut now => exact fun h => absurd rfl h
  | handshakeStarted now => exact hstage
  | timeLatched now => exact hstage
  | pinged now r => exact hstage
  | marked now r => exact hstage
  | enqueued r => exact hstage
  | secondCopySent => exact fun h => absurd rfl h
  | controlSent => exact fun _ => conformingWord_ctrlEntry _ _
  | slotSent _ _ hf => exact fun _ => hs.conformingWord_slot (firstPending_some hf).2 _

/-- Every slot outstanding holds an application message or a ping (40_codec.md R113, 42_transmit.md R147). -/
def WindowHoldsData (s : State) : Prop :=
  ∀ i : Sid, outstanding s i = true → ∃ m : Message, isWindowData m = true ∧ (s.slot i).msg = m.desc

theorem WindowHoldsData.of_sameWindow (hs : WindowHoldsData s) (h : SameWindow s t) : WindowHoldsData t := by
  intro i ho
  rw [h.msg]
  exact hs i (h.outstanding_eq i ▸ ho)

theorem WindowHoldsData.twPush (hs : WindowHoldsData s) {m : Message} (hm : isWindowData m = true) :
    WindowHoldsData (twPush m s) := by
  intro i ho
  rw [twPush_slot]
  split
  · exact ⟨m, hm, rfl⟩
  next hne => exact hs i ((outstanding_of_twPush ho).resolve_left fun h => hne h.symm)

theorem WindowHoldsData.retireThrough (hs : WindowHoldsData s) {a : Sid} (ha : outstanding s a = true) :
    WindowHoldsData (retireThrough a s) := by
  intro i ho
  rw [retireThrough_slot]
  split <;> exact hs i (outstanding_of_retireThrough ha ho)

/-- The Ack that completes the handshake retires the SYNC Hello, the one slot outstanding (44_link.md R188). -/
theorem Inv.windowHoldsData_handshakeAcked (hs : Inv s) {a : Sid} (hl : s.linkState = .handshaking)
    (ha : outstanding s a = true) : WindowHoldsData (Machine.retireThrough a s) := by
  intro i ho
  obtain ⟨hi, hbeyond⟩ := (outstanding_retireThrough hs.count_le ha i).mp ho
  obtain ⟨-, honly⟩ := hs.handshaking_sync hl
  obtain rfl := (honly i hi).1
  obtain rfl := (honly a ha).1
  exact absurd hbeyond (BitVec.lt_irrefl _)

/-- In Connected every slot outstanding holds an application message or a ping. -/
def ConnectedData (s : State) : Prop := s.linkState = .connected → WindowHoldsData s

theorem ConnectedData.of_sameWindow (hs : ConnectedData s) (h : SameWindow s t) : ConnectedData t :=
  fun hl => (hs (h.linkState.symm.trans hl)).of_sameWindow h

theorem ConnectedData.report (hs : ConnectedData s) (r : Result) : ConnectedData (report r s) := hs

theorem TxInv.data_receiveEnd (hs : TxInv s) {sid : Sid} {m : Message} (h : ReceiveEnd s sid m t) : ConnectedData t := by
  have hdata : ConnectedData s := hs.connected_data
  cases h with
  | unchanged r => exact hdata
  | handshakeAcked hl ho => exact fun _ => hs.windowHoldsData_handshakeAcked hl ho
  | windowAcked hl ho => exact fun _ => (hdata hl).retireThrough ho
  | replayMarked => exact (hdata.of_sameWindow (sameWindow_markPending _ s)).report _
  | initiatorSynced => exact hdata
  | responderSynced => exact nofun
  | accepted => exact hdata
  | duplicate => exact hdata
  | gap => exact hdata

theorem TxInv.data_execEnd (hs : TxInv s) {i : Instr} (h : ExecEnd s i t) : ConnectedData t := by
  have hdata : ConnectedData s := hs.connected_data
  cases h with
  | unchanged r => exact hdata
  | receive _ ht => exact hs.data_receiveEnd ht
  | reset b => exact nofun
  | linkTimedOut now => exact nofun
  | handshakeStarted now => exact nofun
  | timeLatched now => exact hdata
  | pinged now r hl =>
    have hlatched : WindowHoldsData (latchTime now s) := hdata hl
    exact fun _ => (hlatched.of_sameWindow (sameWindow_markOverdue _)).twPush rfl
  | marked now r =>
    have hlatched : ConnectedData (latchTime now s) := hdata
    exact (hlatched.of_sameWindow (sameWindow_markOverdue _)).report r
  | enqueued r hm hl => exact fun _ => (hdata hl).twPush (by rw [isWindowData, hm, Bool.true_or])
  | secondCopySent => exact hdata
  | controlSent => exact hdata
  | slotSent => exact hdata.of_sameWindow (sameWindow_slotSent _ _ s)

theorem TxInv.execEnd (hs : TxInv s) {i : Instr} (h : ExecEnd s i t) : TxInv t where
  toInv := hs.toInv.execEnd h
  connected_data := hs.data_execEnd h
  stage_conforms := hs.stage_execEnd h

theorem TxInv.report (hs : TxInv s) (r : Result) : TxInv (report r s) :=
  hs.execEnd (i := .txSlot) (.unchanged r)

theorem TxInv.withPending (hs : TxInv s) (rest : List Input) : TxInv { s with pending := rest } :=
  { hs.toInv.withPending rest with connected_data := hs.connected_data, stage_conforms := hs.stage_conforms }

end

/-- Settles O48: every end of every instruction keeps the window's data and the stage's word. -/
theorem stepKeepsTransmitInvariant : Obligations.StepKeepsTransmitInvariant :=
  fun _ _ => step_keeps (fun rest hs => hs.withPending rest) (fun r hs => hs.report r) fun hs => hs.execEnd

/-- Settles O46: the reset state is in Disconnected with an empty window and an empty stage. -/
theorem resetMeetsInvariants : Obligations.ResetMeetsInvariants :=
  { inv_of_disconnected (t := State.reset) (by decide) rfl rfl rfl rfl fun i => by
      rw [show State.reset = resetBlock 0#1 State.reset from rfl, resetBlock_slot] with
    connected_data := nofun
    stage_conforms := fun h => absurd rfl h }

/-! ### What the operations leave unchanged (10_state.md R34, R39) -/

/-- The receive path leaves the control queue and its overflow bit alone, or schedules one entry (42_transmit.md R157). -/
theorem ReceiveEnd.ctrlq_cases {s t : State} {sid : Sid} {m : Message} (h : ReceiveEnd s sid m t) :
    (t.ctrlq = s.ctrlq ∧ t.ctrlqOverflow = s.ctrlqOverflow) ∨
    ∃ e, t.ctrlq = queueAfter s.ctrlq e ∧ t.ctrlqOverflow = overflowAfter s.ctrlq s.ctrlqOverflow := by
  cases h with
  | unchanged r => exact .inl ⟨rfl, rfl⟩
  | handshakeAcked => exact .inl ⟨rfl, rfl⟩
  | windowAcked => exact .inl ⟨rfl, rfl⟩
  | replayMarked => exact .inl ⟨rfl, rfl⟩
  | initiatorSynced => exact .inr ⟨_, rfl, rfl⟩
  | responderSynced => exact .inr ⟨_, rfl, rfl⟩
  | accepted => exact .inr ⟨_, rfl, rfl⟩
  | duplicate => exact .inr ⟨_, rfl, rfl⟩
  | gap => exact .inr ⟨_, rfl, rfl⟩

section
variable {s t : State} {i : Instr}

theorem ExecEnd.keeps_params (h : ExecEnd s i t) : t.params = s.params ∧ t.pending = s.pending := by
  cases h with
  | receive _ ht =>
    obtain ⟨hp, hq, -⟩ := ht.keeps
    exact ⟨hp, hq⟩
  | _ => exact ⟨rfl, rfl⟩

theorem ExecEnd.keeps_role (h : ExecEnd s i t) (hreset : ∀ b, i ≠ .reset b) : t.role = s.role := by
  cases h with
  | receive _ ht =>
    obtain ⟨-, -, hrole, -⟩ := ht.keeps
    exact hrole
  | reset b => exact absurd rfl (hreset b)
  | _ => rfl

theorem ExecEnd.keeps_overflow (h : ExecEnd s i t) (hreset : ∀ b, i ≠ .reset b) (hm : received s.params.crc i = none) :
    t.ctrlqOverflow = s.ctrlqOverflow := by
  cases h with
  | receive h => cases h.symm.trans hm
  | reset b => exact absurd rfl (hreset b)
  | _ => rfl

/-- Beside RESET and TICK no instruction writes the time, only TX_SLOT the output stage, and only a received message the link. -/
theorem ExecEnd.keeps_without_tick (h : ExecEnd s i t) (hreset : ∀ b, i ≠ .reset b) (htick : ∀ now, i ≠ .tick now) :
    t.curTime = s.curTime ∧
    (i ≠ .txSlot → t.outLeft = s.outLeft ∧ t.outWord = s.outWord ∧ t.lastTxTime = s.lastTxTime) ∧
    (received s.params.crc i = none → t.linkState = s.linkState ∧ t.twBase = s.twBase ∧ t.rxCursor = s.rxCursor ∧
      (i ≠ .txSlot → t.ctrlq = s.ctrlq)) := by
  cases h with
  | receive hm ht =>
    obtain ⟨-, -, -, htime, hstage⟩ := ht.keeps
    exact ⟨htime, fun _ => hstage, fun hnone => by cases hm.symm.trans hnone⟩
  | reset b => exact absurd rfl (hreset b)
  | linkTimedOut now => exact absurd rfl (htick now)
  | handshakeStarted now => exact absurd rfl (htick now)
  | timeLatched now => exact absurd rfl (htick now)
  | pinged now => exact absurd rfl (htick now)
  | marked now => exact absurd rfl (htick now)
  | secondCopySent => exact ⟨rfl, fun htx => absurd rfl htx, fun _ => ⟨rfl, rfl, rfl, fun _ => rfl⟩⟩
  | controlSent => exact ⟨rfl, fun htx => absurd rfl htx, fun _ => ⟨rfl, rfl, rfl, fun htx => absurd rfl htx⟩⟩
  | slotSent => exact ⟨rfl, fun htx => absurd rfl htx, fun _ => ⟨rfl, rfl, rfl, fun _ => rfl⟩⟩
  | unchanged r => exact ⟨rfl, fun _ => ⟨rfl, rfl, rfl⟩, fun _ => ⟨rfl, rfl, rfl, fun _ => rfl⟩⟩
  | enqueued r => exact ⟨rfl, fun _ => ⟨rfl, rfl, rfl⟩, fun _ => ⟨rfl, rfl, rfl, fun _ => rfl⟩⟩

theorem ExecEnd.txSlot_keeps_window (h : ExecEnd s .txSlot t) : t.twCount = s.twCount ∧ t.liveRef = s.liveRef := by
  cases h with
  | receive h => cases h
  | _ => exact ⟨rfl, rfl⟩

end

/-- Settles O51, field by field. -/
theorem operationsKeepTheirFields : Obligations.OperationsKeepTheirFields := by
  intro i s t h
  have hend := exec_end h
  obtain ⟨hparams, hpending⟩ := hend.keeps_params
  refine ⟨hparams, hpending, fun hreset => ⟨hend.keeps_role hreset, fun htick => ?_, fun htx htick => ?_, fun hm =>
    ⟨hend.keeps_overflow hreset hm, fun htick => ?_, ?_⟩⟩⟩
  · obtain ⟨htime, -, -⟩ := hend.keeps_without_tick hreset htick
    exact htime
  · obtain ⟨-, hstage, -⟩ := hend.keeps_without_tick hreset htick
    exact hstage htx
  · obtain ⟨-, -, hlink⟩ := hend.keeps_without_tick hreset htick
    exact hlink hm
  · rintro rfl
    exact hend.txSlot_keeps_window

theorem overflowAfter_of_set (q : List CtrlEntry) : overflowAfter q true = true := by
  simp [overflowAfter]

/-- Only a full queue sets the overflow bit, and it drops the new entry (42_transmit.md R157). -/
theorem full_of_overflowAfter {q : List CtrlEntry} (h : overflowAfter q false = true) (e : CtrlEntry) :
    8 ≤ q.length ∧ queueAfter q e = q := by
  unfold overflowAfter at h
  split at h
  · cases h
  next hfull => exact ⟨Nat.le_of_not_lt hfull, if_neg hfull⟩

/-- The overflow bit after an instruction: what it was, cleared by RESET, or what scheduling an entry makes of it. -/
theorem ExecEnd.overflow_cases {s t : State} {i : Instr} (h : ExecEnd s i t) :
    t.ctrlqOverflow = s.ctrlqOverflow ∨ ((∃ b, i = .reset b) ∧ t.ctrlqOverflow = false) ∨
    ∃ e, t.ctrlq = queueAfter s.ctrlq e ∧ t.ctrlqOverflow = overflowAfter s.ctrlq s.ctrlqOverflow := by
  cases h with
  | receive _ ht => exact ht.ctrlq_cases.imp (fun h => h.2) .inr
  | reset b => exact .inr (.inl ⟨⟨b, rfl⟩, rfl⟩)
  | _ => exact .inl rfl

/-- Settles O54. -/
theorem overflowBitIsSticky : Obligations.OverflowBitIsSticky := by
  intro i s t h
  rcases (exec_end h).overflow_cases with ho | ⟨⟨b, rfl⟩, ho⟩ | ⟨e, hq, ho⟩
  · exact ⟨fun hs _ => ho.trans hs, fun hs ht => by cases hs.symm.trans (ho.symm.trans ht)⟩
  · exact ⟨fun _ hreset => absurd rfl (hreset b), fun _ ht => by cases ho.symm.trans ht⟩
  · refine ⟨fun hs _ => by rw [ho, hs, overflowAfter_of_set], fun hs ht => ?_⟩
    rw [ho, hs] at ht
    rw [hq]
    exact full_of_overflowAfter ht e

/-! ### The bits no rule reads (10_state.md R27, R35) -/

section
variable {s u : State}

/-! #### What the operations test is the same in states that agree -/

theorem Agree.outstanding_eq (h : Agree s u) (i : Sid) : outstanding u i = outstanding s i :=
  outstanding_congr h.twBase h.twCount i

theorem Agree.offset_eq (h : Agree s u) (i : Sid) : offset u i = offset s i := by
  rw [offset, offset, h.twBase]

theorem Agree.nextSid_eq (h : Agree s u) : nextSid u = nextSid s := by
  rw [nextSid, nextSid, h.twBase, h.twCount]

theorem Agree.expectedSid_eq (h : Agree s u) : expectedSid u = expectedSid s := by
  rw [expectedSid, expectedSid, h.rxCursor]

theorem Agree.forwardDistance_eq (h : Agree s u) (i : Sid) : forwardDistance u i = forwardDistance s i := by
  rw [forwardDistance, forwardDistance, h.expectedSid_eq]

theorem Agree.linkTimedOut_eq (h : Agree s u) : linkTimedOut u = linkTimedOut s := by
  unfold linkTimedOut elapsed
  rw [h.linkState, h.twCount, h.params, h.curTime, h.liveRef]

theorem Agree.pingDue_eq (h : Agree s u) : pingDue u = pingDue s := by
  unfold pingDue elapsed
  rw [h.linkState, h.twCount, h.curTime, h.lastTxTime]

/-- The ack timeout reads `time_sent` of outstanding slots only (42_transmit.md R146). -/
theorem Agree.overdue_eq (h : Agree s u) (i : Sid) : overdue u i = overdue s i := by
  unfold overdue elapsed
  rw [h.outstanding_eq]
  cases ho : outstanding s i with
  | false => rfl
  | true => rw [h.slot i ho, h.params, h.curTime]

theorem Agree.overdueCount_eq (h : Agree s u) : overdueCount u = overdueCount s := by
  simp only [overdueCount, h.overdue_eq]

theorem Agree.firstPending_eq (h : Agree s u) : firstPending u = firstPending s := by
  simp only [firstPending, h.twBase, h.twCount, h.pend]

theorem Agree.slotPayload_eq (h : Agree s u) {i : Sid} (ho : outstanding s i = true) : slotPayload u i = slotPayload s i := by
  rw [slotPayload, slotPayload, h.slot i ho]

/-! #### The updates keep states in agreement -/

theorem Agree.report (h : Agree s u) (r : Result) : Agree (report r s) (report r u) :=
  { h with result := rfl, keyPort := rfl, rgbPort := rfl }

theorem Agree.deliver (h : Agree s u) (m : Message) : Agree (deliver m s) (deliver m u) :=
  { h with keyPort := rfl, rgbPort := rfl }

theorem Agree.latchTime (h : Agree s u) (now : Time) : Agree (latchTime now s) (latchTime now u) :=
  { h with curTime := rfl }

theorem Agree.moveCursor (h : Agree s u) (sid : Sid) : Agree (moveCursor sid s) (moveCursor sid u) :=
  { h with rxCursor := rfl }

theorem Agree.withPending (h : Agree s u) (rest : List Input) : Agree { s with pending := rest } { u with pending := rest } :=
  { h with pending := rfl }

theorem Agree.withCtrlq (h : Agree s u) (q : List CtrlEntry) : Agree { s with ctrlq := q } { u with ctrlq := q } :=
  { h with ctrlq := rfl }

/-- Emptying the stage forgets its word. -/
theorem Agree.emptyStage (h : Agree s u) : Agree { s with outLeft := 0#1 } { u with outLeft := 0#1 } :=
  { h with outLeft := rfl, outWord := fun hne => absurd rfl hne }

theorem Agree.ctrlSchedule (h : Agree s u) (k : CtrlKind) (sid : Sid) : Agree (ctrlSchedule k sid s) (ctrlSchedule k sid u) :=
  { h with
    ctrlq := by rw [ctrlSchedule_eq, ctrlSchedule_eq, h.ctrlq]
    ctrlqOverflow := by rw [ctrlSchedule_eq, ctrlSchedule_eq, h.ctrlq, h.ctrlqOverflow] }

theorem Agree.loadStage (h : Agree s u) (w : WireWord) :
    Agree { s with outWord := w, outLeft := Config.copiesLeft, lastTxTime := s.curTime }
      { u with outWord := w, outLeft := Config.copiesLeft, lastTxTime := u.curTime } :=
  { h with outWord := fun _ => rfl, outLeft := rfl, lastTxTime := h.curTime }

theorem Agree.sendFrame (h : Agree s u) (p16 : Payload) : Agree (sendFrame p16 s) (sendFrame p16 u) := by
  have hword : frame u.params.crc p16 = frame s.params.crc p16 := by rw [h.params]
  unfold Machine.sendFrame
  rw [hword]
  exact (h.loadStage _).report _

/-- Writing one slot alike keeps states in agreement. -/
theorem Agree.setSlot (h : Agree s u) (i : Sid) (x : Slot) : Agree (setSlot i x s) (setSlot i x u) :=
  { h with
    pend := fun j => by
      rw [setSlot_slot, setSlot_slot]
      split
      · rfl
      · exact h.pend j
    slot := fun j ho => by
      rw [setSlot_slot, setSlot_slot]
      split
      · rfl
      · exact h.slot j ho }

theorem Agree.markPending (h : Agree s u) {a : Sid} (ho : outstanding s a = true) : Agree (markPending a s) (markPending a u) := by
  unfold Machine.markPending
  rw [h.slot a ho]
  exact h.setSlot a _

theorem Agree.markOverdue (h : Agree s u) : Agree (markOverdue s) (markOverdue u) :=
  { h with
    pend := fun i => by
      rw [markOverdue_slot, markOverdue_slot, h.overdue_eq]
      split
      · rfl
      · exact h.pend i
    slot := fun i ho => by rw [markOverdue_slot, markOverdue_slot, h.overdue_eq, h.slot i ho] }

/-- The pushed slot is written whole, so what it held before is not read. -/
theorem Agree.twPush (h : Agree s u) (m : Message) : Agree (twPush m s) (twPush m u) :=
  { h with
    twCount := by rw [twPush_twCount, twPush_twCount, h.twCount]
    liveRef := by rw [twPush_liveRef, twPush_liveRef, h.twCount, h.curTime, h.liveRef]
    pend := fun i => by
      rw [twPush_slot, twPush_slot, h.nextSid_eq]
      split
      · rfl
      · exact h.pend i
    slot := fun i ho => by
      rw [twPush_slot, twPush_slot, h.nextSid_eq, h.curTime]
      split
      · rfl
      next hne => exact h.slot i ((outstanding_of_twPush ho).resolve_left fun he => hne he.symm) }

theorem Agree.pushPing (h : Agree s u) : Agree (pushPing s) (pushPing u) :=
  { h.twPush (.hello false) with lastTxTime := h.curTime }

theorem Agree.handshakeStart (h : Agree s u) : Agree (handshakeStart s) (handshakeStart u) :=
  { h.twPush (.hello true) with linkState := rfl }

theorem Agree.handshakeComplete (h : Agree s u) : Agree (handshakeComplete s) (handshakeComplete u) :=
  { h with linkState := rfl }

theorem Agree.clearWindow (h : Agree s u) : Agree (clearWindow s) (clearWindow u) :=
  { h with
    twBase := rfl
    twCount := rfl
    pend := fun i => by rw [clearWindow_slot, clearWindow_slot]
    slot := fun i ho => by
      rw [outstanding_of_count_zero (clearWindow_twCount s)] at ho
      cases ho }

theorem Agree.txResync (h : Agree s u) : Agree (txResync s) (txResync u) :=
  { h.clearWindow.twPush (.hello true) with linkState := rfl }

theorem Agree.linkReset (h : Agree s u) : Agree (linkReset s) (linkReset u) :=
  { h.clearWindow with
    rxCursor := rfl
    ctrlq := rfl
    outLeft := rfl
    linkState := rfl
    outWord := fun hne => absurd rfl hne }

theorem Agree.resetBlock (h : Agree s u) (b : BitVec 1) : Agree (resetBlock b s) (resetBlock b u) := by
  have heq : Machine.resetBlock b u = Machine.resetBlock b s := by
    unfold Machine.resetBlock
    rw [h.params, h.pending]
  rw [heq]
  constructor <;> intros <;> rfl

/-- A retirement reads no `msg` and no `time_sent`, and makes no slot outstanding (42_transmit.md R137). -/
theorem Agree.retireThrough (h : Agree s u) {a : Sid} (ha : outstanding s a = true) :
    Agree (retireThrough a s) (retireThrough a u) :=
  { h with
    liveRef := h.curTime
    twBase := rfl
    twCount := by rw [retireThrough_twCount, retireThrough_twCount, h.twCount, h.offset_eq]
    pend := fun i => by
      rw [retireThrough_slot, retireThrough_slot, h.offset_eq, h.offset_eq]
      split
      · rfl
      · exact h.pend i
    slot := fun i ho => by
      rw [retireThrough_slot, retireThrough_slot, h.offset_eq, h.offset_eq, h.slot i (outstanding_of_retireThrough ha ho)] }

/-! #### The operations keep states in agreement -/

theorem Agree.receiveAck (h : Agree s u) (a : Sid) : Agree (receiveAck a s) (receiveAck a u) := by
  unfold Machine.receiveAck onAck
  rw [h.linkState, h.outstanding_eq]
  split
  · exact h.report _
  · split
    next ho =>
      split
      · exact (h.retireThrough ho).handshakeComplete.report _
      · exact (h.retireThrough ho).report _
    · exact h.report _

theorem Agree.receiveError (h : Agree s u) (a : Sid) : Agree (receiveError a s) (receiveError a u) := by
  unfold Machine.receiveError onError
  rw [h.linkState, h.outstanding_eq]
  split
  · exact h.report _
  · split
    next ho => exact (h.markPending ho).report _
    · exact h.report _

theorem Agree.receiveSync (h : Agree s u) (sid : Sid) : Agree (receiveSync sid s) (receiveSync sid u) := by
  have hsynced := (h.moveCursor 0#5).ctrlSchedule .ack 0#5
  unfold Machine.receiveSync
  rw [h.role]
  split
  · dsimp only
    split
    · exact hsynced.txResync.report _
    · exact hsynced.report _
  · exact h.report _

theorem Agree.receiveSequenced (h : Agree s u) (sid : Sid) (m : Message) :
    Agree (receiveSequenced sid m s) (receiveSequenced sid m u) := by
  unfold Machine.receiveSequenced
  rw [h.linkState, h.forwardDistance_eq, h.rxCursor, h.expectedSid_eq]
  split
  · exact h.report _
  · split
    · exact (((h.moveCursor sid).ctrlSchedule .ack sid).report _).deliver m
    · split
      · exact (h.ctrlSchedule _ _).report _
      · exact (h.ctrlSchedule _ _).report _

theorem Agree.receiveMessage (h : Agree s u) (sid : Sid) (m : Message) :
    Agree (receiveMessage sid m s) (receiveMessage sid m u) := by
  cases m with
  | ack a => exact h.receiveAck a
  | error a => exact h.receiveError a
  | hello sync =>
    cases sync with
    | true => exact h.receiveSync sid
    | false => exact h.receiveSequenced sid _
  | press r c => exact h.receiveSequenced sid _
  | release r c => exact h.receiveSequenced sid _
  | rgbChangeAnim n => exact h.receiveSequenced sid _
  | rgbLayerChange n => exact h.receiveSequenced sid _

theorem Agree.receiveWord (h : Agree s u) (w : WireWord) : Agree (receiveWord w s) (receiveWord w u) := by
  unfold Machine.receiveWord receivePayload
  rw [h.params]
  split
  · cases decodePayload (w.extractLsb 15 0) with
    | ok x => exact h.receiveMessage x.1 x.2
    | error e => exact h.report _
  · exact h.report _

theorem Agree.tickBody (h : Agree s u) : Agree (tickBody s) (tickBody u) := by
  unfold Machine.tickBody
  rw [h.linkTimedOut_eq, h.linkState, h.role, h.markOverdue.pingDue_eq, h.overdueCount_eq]
  split
  · exact h.linkReset.report _
  · split
    · split
      · exact h.handshakeStart.report _
      · exact h.report _
    · split
      · exact h.markOverdue.pushPing.report _
      · exact h.markOverdue.report _

theorem Agree.execEnqueue (h : Agree s u) (desc : Desc) : OutcomesAgree (execEnqueue desc s) (execEnqueue desc u) := by
  unfold Machine.execEnqueue
  rw [h.linkState, h.twCount, h.nextSid_eq]
  cases decodePayload (0#5 ++ desc) with
  | error e => exact h.report _
  | ok x =>
    obtain ⟨_, m⟩ := x
    dsimp only
    split
    · exact h.report _
    · split
      · exact h.report _
      · split
        · exact h.report _
        · exact (h.twPush m).report _

theorem Agree.execTxSlot (h : Agree s u) : OutcomesAgree (execTxSlot s) (execTxSlot u) := by
  rcases execTxSlot_cases s with ⟨ho, e⟩ | ⟨ho, c, rest, hq, e⟩ | ⟨ho, hq, sid, hf, e⟩ | ⟨ho, hq, hf, e⟩ <;> rw [e]
  · have hword : u.outWord = s.outWord := h.outWord (by rw [ho]; decide)
    have eu : Machine.execTxSlot u = .next (Machine.report (.word s.outWord) { u with outLeft := 0#1 }) := by
      simp [Machine.execTxSlot, h.outLeft, ho, hword]
    rw [eu]
    exact h.emptyStage.report _
  · have eu : Machine.execTxSlot u = .next (Machine.sendFrame c.payload { u with ctrlq := rest }) := by
      simp [Machine.execTxSlot, h.outLeft, ho, h.ctrlq, hq]
    rw [eu]
    exact (h.withCtrlq rest).sendFrame _
  · obtain ⟨-, hout⟩ := firstPending_some hf
    have eu : Machine.execTxSlot u = .next (Machine.sendFrame (slotPayload s sid)
        (Machine.setSlot sid { s.slot sid with pend := false, timeSent := s.curTime } u)) := by
      simp [Machine.execTxSlot, h.outLeft, ho, h.ctrlq, hq, h.firstPending_eq, hf, h.slotPayload_eq hout, h.slot sid hout, h.curTime]
    rw [eu]
    exact (h.setSlot sid _).sendFrame _
  · have eu : Machine.execTxSlot u = .next (Machine.report .nothing u) := by
      simp [Machine.execTxSlot, h.outLeft, ho, h.ctrlq, hq, h.firstPending_eq, hf]
    rw [eu]
    exact h.report _

theorem Agree.exec (h : Agree s u) (i : Instr) : OutcomesAgree (exec i s) (exec i u) := by
  cases i with
  | ack sid a => exact h.receiveAck a
  | error sid a => exact h.receiveError a
  | press sid r c => exact h.receiveSequenced sid _
  | release sid r c => exact h.receiveSequenced sid _
  | hello sid sync =>
    cases sync with
    | true => exact h.receiveSync sid
    | false => exact h.receiveSequenced sid _
  | rgbChangeAnim sid n => exact h.receiveSequenced sid _
  | rgbLayerChange sid n => exact h.receiveSequenced sid _
  | reservedTag7 sid pl => exact h.report _
  | frame check p16 => exact h.receiveWord _
  | reset b => exact h.resetBlock b
  | tick now => exact (h.latchTime now).tickBody
  | enqueue desc => exact h.execEnqueue desc
  | rxWord w => exact h.receiveWord w
  | txSlot => exact h.execTxSlot
  | reservedOp5 arg => exact h.report _
  | reservedOp6 arg => exact h.report _
  | reservedOp7 arg => exact h.report _

end

/-- Settles O55: both states wait, discard or run the same input, or both are refused. -/
theorem unreadBitsDoNotShow : Obligations.UnreadBitsDoNotShow := by
  intro s u h
  by_cases hok : s.params.ok = true
  · have hok' : u.params.ok = true := h.params ▸ hok
    cases hp : s.pending with
    | nil =>
      rw [step_of_nil hok hp, step_of_nil hok' (h.pending.trans hp)]
      exact h
    | cons r rest =>
      cases hd : decodeInput r with
      | ok i =>
        rw [step_of_decoded hok hp hd, step_of_decoded hok' (h.pending.trans hp) hd]
        exact (h.withPending rest).exec i
      | error e =>
        rw [step_of_undecodable hok hp hd, step_of_undecodable hok' (h.pending.trans hp) hd]
        exact (h.withPending rest).report _
  · have hok' : ¬ u.params.ok = true := by rwa [h.params]
    rw [step_of_badParams hok, step_of_badParams hok']
    exact rfl

end Sys2Proof.Machine

/-! ## The family of the encoding: the table's decoder and encoder, tag 7, the SYNC Hello's sid, and the words sent -/

namespace Sys2Proof

/-! ### The decoder after the encoder -/

/-- A payload decodes to the row of the message it encodes: a message's tag is not the table's tag 7. -/
theorem decodeFrame16_encodePayload (m : Message) (sid : Sid) :
    decodeFrame16 (encodePayload m sid) = .ok (Instr.ofMessage sid m) := by
  have htag : (encodePayload m sid).tag ≠ 7#3 := by
    rw [encodePayload, payload_tag]
    exact tag_ne_seven m
  simp only [decodeFrame16, if_neg htag, Machine.decodePayload_encodePayload]

theorem decodeFrame16_tag7 (sid : Sid) (pl : BitVec 8) :
    decodeFrame16 (sid ++ 7#3 ++ pl) = .ok (.reservedTag7 sid pl) := by
  rw [decodeFrame16, payload_tag, if_pos rfl, payload_sid, payload_pl]

theorem decodeInput_word (check : BitVec 16) (p16 : Payload) :
    decodeInput (.word (check ++ p16)) = .ok (.frame check p16) := by
  simp only [decodeInput, word_check, word_payload]

/-- Settles O4: a message row goes through the codec, tag 7 and a wire word through their fields, a command through its code. -/
theorem tableDecodeInvertsEncode : Obligations.TableDecodeInvertsEncode := by
  intro i
  cases i with
  | ack sid s => exact decodeFrame16_encodePayload (.ack s) sid
  | error sid s => exact decodeFrame16_encodePayload (.error s) sid
  | press sid r c => exact decodeFrame16_encodePayload (.press r c) sid
  | release sid r c => exact decodeFrame16_encodePayload (.release r c) sid
  | hello sid b => exact decodeFrame16_encodePayload (.hello b) sid
  | rgbChangeAnim sid n => exact decodeFrame16_encodePayload (.rgbChangeAnim n) sid
  | rgbLayerChange sid n => exact decodeFrame16_encodePayload (.rgbLayerChange n) sid
  | reservedTag7 sid pl => exact decodeFrame16_tag7 sid pl
  | frame check p16 => exact decodeInput_word check p16
  | reset b => exact congrArg Except.ok (decodeCommand_reset b)
  | tick now => exact congrArg Except.ok (decodeCommand_tick now)
  | enqueue d => exact congrArg Except.ok (decodeCommand_enqueue d)
  | rxWord w => exact congrArg Except.ok (decodeCommand_rxWord w)
  | txSlot => exact congrArg Except.ok (decodeCommand_txSlot 0#0)
  | reservedOp5 a => exact congrArg Except.ok (decodeCommand_reservedOp5 a)
  | reservedOp6 a => exact congrArg Except.ok (decodeCommand_reservedOp6 a)
  | reservedOp7 a => exact congrArg Except.ok (decodeCommand_reservedOp7 a)

/-! ### The rows a payload matches -/

/-- A payload that decodes is the encoding of what it decodes to (40_codec.md R107). -/
theorem encodePayload_of_decodePayload {p16 : Payload} {sid : Sid} {m : Message} (h : decodePayload p16 = .ok (sid, m)) :
    encodePayload m sid = p16 := by
  unfold decodePayload at h
  cases hf : decodeFields p16.tag p16.pl with
  | error e => simp [hf] at h
  | ok m' =>
    obtain ⟨rfl, rfl⟩ : p16.sid = sid ∧ m' = m := by simpa [hf] using h
    obtain ⟨htag, hpl⟩ := fields_of_decodeFields hf
    rw [encodePayload, htag, hpl, payload_eq_fields]

/-- What the table decoder reads from a payload: tag 7's row, or the row of the message the payload encodes. -/
theorem decodeFrame16_cases {p16 : Payload} {i : Instr} (h : decodeFrame16 p16 = .ok i) :
    (∃ sid pl, i = .reservedTag7 sid pl ∧ p16 = sid ++ 7#3 ++ pl) ∨
    (∃ sid m, i = Instr.ofMessage sid m ∧ p16 = encodePayload m sid) := by
  unfold decodeFrame16 at h
  split at h
  next htag =>
    obtain rfl := Except.ok.inj h
    exact .inl ⟨p16.sid, p16.pl, rfl, by rw [← htag, payload_eq_fields]⟩
  next =>
    cases hd : decodePayload p16 with
    | error e => simp [hd] at h
    | ok x =>
      obtain ⟨sid, m⟩ := x
      exact .inr ⟨sid, m, by simpa [hd] using h.symm, (encodePayload_of_decodePayload hd).symm⟩

/-- A message's row is a frame16 row, and its encoding is in it. -/
theorem tableRow_ofMessage (sid : Sid) (m : Message) :
    (Instr.ofMessage sid m).tableRow.1 = 16 ∧
    (encodePayload m sid).toNat &&& (Instr.ofMessage sid m).tableRow.2.1 = (Instr.ofMessage sid m).tableRow.2.2 := by
  cases m with
  | ack s => exact ⟨rfl, Laws.TableRow.ack sid s⟩
  | error s => exact ⟨rfl, Laws.TableRow.error sid s⟩
  | press r c => exact ⟨rfl, Laws.TableRow.press sid r c⟩
  | release r c => exact ⟨rfl, Laws.TableRow.release sid r c⟩
  | hello b => exact ⟨rfl, Laws.TableRow.hello sid b⟩
  | rgbChangeAnim n => exact ⟨rfl, Laws.TableRow.rgbChangeAnim sid n⟩
  | rgbLayerChange n => exact ⟨rfl, Laws.TableRow.rgbLayerChange sid n⟩

/-! ### The reserved bits as bounds -/

/-- A guarded answer is an answer exactly if its guard holds. -/
theorem exists_ite_ok_iff {ε α : Type} {c : Prop} [Decidable c] (x : α) (e : ε) :
    (∃ m, (if c then Except.ok x else .error e) = .ok m) ↔ c := by
  split <;> simp [*]

/-- The fields that spell a message: a kind's reserved bits are the high ones of the payload field, so that they are 0 is a bound on it
(30_encoding.md R70 to R77). -/
theorem decodeFields_ok_iff (tag : BitVec 3) (pl : BitVec 8) :
    (∃ m, decodeFields tag pl = .ok m) ↔
      tag.toNat ≤ 1 ∧ pl.toNat < 32 ∨ (tag.toNat = 2 ∨ tag.toNat = 3) ∧ pl.toNat < 128 ∨
      tag.toNat = 4 ∧ pl.toNat < 2 ∨ tag.toNat = 5 ∨ tag.toNat = 6 := by
  have control : pl.extractLsb 7 5 = 0#3 ↔ pl.toNat < 32 := by
    have := toNat_field pl 7 5
    bv_omega
  have hello : pl.extractLsb 7 1 = 0#7 ↔ pl.toNat < 2 := by
    have := toNat_field pl 7 1
    bv_omega
  have key : pl.getLsbD 7 = false ↔ pl.toNat < 128 := by
    have := BitVec.msb_eq_false_iff_two_mul_lt (x := pl)
    rw [BitVec.msb_eq_getLsbD_last] at this
    exact this.trans (by omega)
  rcases opc_cases tag with rfl | rfl | rfl | rfl | rfl | rfl | rfl | rfl
  · exact (exists_ite_ok_iff _ _).trans (control.trans (by simp))
  · exact (exists_ite_ok_iff _ _).trans (control.trans (by simp))
  · exact (exists_ite_ok_iff _ _).trans (key.trans (by simp))
  · exact (exists_ite_ok_iff _ _).trans (key.trans (by simp))
  · exact (exists_ite_ok_iff _ _).trans (hello.trans (by simp))
  · simp [decodeFields]
  · simp [decodeFields]
  · simp [decodeFields]

/-- A payload is an instruction exactly if it has tag 7 or its fields spell a message. -/
theorem decodeFrame16_ok_iff (p16 : Payload) :
    (∃ i, decodeFrame16 p16 = .ok i) ↔ p16.tag.toNat = 7 ∨ ∃ m, decodeFields p16.tag p16.pl = .ok m := by
  have h7 : p16.tag = 7#3 ↔ p16.tag.toNat = 7 := by bv_omega
  unfold decodeFrame16 decodePayload
  by_cases ht : p16.tag = 7#3
  · simp [ht]
  · cases decodeFields p16.tag p16.pl <;> simp [ht, ← h7]

/-- A mask of `k` bits from bit `lo` on reads those bits. -/
theorem and_field_mask (n lo k : Nat) : n &&& (2 ^ k - 1) * 2 ^ lo = n / 2 ^ lo % 2 ^ k * 2 ^ lo := by
  apply Nat.eq_of_testBit_eq
  intro j
  simp only [Nat.testBit_and, Nat.testBit_mul_two_pow, Nat.testBit_two_pow_sub_one, Nat.testBit_mod_two_pow, Nat.testBit_div_two_pow]
  by_cases h : lo ≤ j <;> simp [h, Bool.and_comm]

/-- Settles O6: what is decoded is in its row by the encoder's laws; that a row's payload decodes is a comparison of the row's field with the
reserved bits' bounds. -/
theorem payloadDecodesByItsTableRow : Obligations.PayloadDecodesByItsTableRow := by
  intro p16
  constructor
  · intro i h
    rcases decodeFrame16_cases h with ⟨sid, pl, rfl, rfl⟩ | ⟨sid, m, rfl, rfl⟩
    · exact ⟨rfl, Laws.TableRow.reservedTag7 sid pl⟩
    · exact tableRow_ofMessage sid m
  · have htag : p16.tag.toNat = _ := toNat_field (n := 16) p16 10 8
    have hpl : p16.pl.toNat = _ := toNat_field (n := 16) p16 7 0
    have hcontrol : p16.toNat &&& 0x07E0 = p16.toNat / 32 % 64 * 32 := and_field_mask p16.toNat 5 6
    have hkey : p16.toNat &&& 0x0780 = p16.toNat / 128 % 16 * 128 := and_field_mask p16.toNat 7 4
    have hhello : p16.toNat &&& 0x07FE = p16.toNat / 2 % 1024 * 2 := and_field_mask p16.toNat 1 10
    have hrgb : p16.toNat &&& 0x0700 = p16.toNat / 256 % 8 * 256 := and_field_mask p16.toNat 8 3
    show (∃ i, decodeFrame16 p16 = .ok i) ↔ _
    simp only [decodeFrame16_ok_iff, decodeFields_ok_iff, List.exists_mem_cons_iff, List.not_mem_nil, false_and, exists_false,
      or_false, hcontrol, hkey, hhello, hrgb]
    omega

/-! ### Words written out, and the reserved codes -/

/-- Settles O7: closed words, decoded by evaluation. -/
theorem specWordsDecode : Obligations.SpecWordsDecode := by
  unfold Obligations.SpecWordsDecode
  decide

namespace Machine

/-- Settles O45. -/
theorem reservedCodesAreIllegal : Obligations.ReservedCodesAreIllegal := fun arg _ =>
  ⟨congrArg Except.ok (decodeCommand_reservedOp5 arg), congrArg Except.ok (decodeCommand_reservedOp6 arg),
    congrArg Except.ok (decodeCommand_reservedOp7 arg), rfl, rfl, rfl⟩

/-! ### Payloads that are discarded -/

theorem decodePayload_tag7 (sid : Sid) (pl : BitVec 8) : decodePayload (sid ++ 7#3 ++ pl) = .error .unknownEncoding := by
  rw [decodePayload, payload_tag]
  rfl

/-- Settles O30: no message has tag 7, and a verified frame of tag 7 stops at the decoder. -/
theorem tag7IsDiscarded : Obligations.Tag7IsDiscarded := by
  refine ⟨fun m sid => ?_, fun sid pl s => ⟨decodePayload_tag7 sid pl, rfl, ?_⟩⟩
  · have htag : (encodePayload m sid).extractLsb 10 8 = m.tag := payload_tag sid m.tag m.pl
    rw [htag]
    exact tag_ne_seven m
  · have hrx : receiveWord (frame s.params.crc (sid ++ 7#3 ++ pl)) s = rejectUndecodable s := by
      rw [receiveWord_frame, receivePayload, decodePayload_tag7]
    exact congrArg Host.Outcome.next hrx

/-- Settles O44: the codec takes the sid, the receive path does not. -/
theorem misnumberedSyncHelloIsRejected : Obligations.MisnumberedSyncHelloIsRejected := by
  intro sid s hsid
  have hrx : receiveSync sid s = rejectUndecodable s := if_neg hsid
  exact ⟨decodePayload_encodePayload _ _, congrArg Host.Outcome.next hrx⟩

/-! ### The words sent -/

/-- Settles O49: the second copy is the stage's word, a control frame names its sid twice, and a slot holds a message well-formed under its sid. -/
theorem everyWordSentConforms : Obligations.EveryWordSentConforms := by
  intro s t w hs h hw
  rcases execTxSlot_cases s with ⟨ho, e⟩ | ⟨-, e', rest, -, e⟩ | ⟨-, -, sid, hf, e⟩ | ⟨-, -, -, e⟩ <;>
    obtain rfl := Host.Outcome.next.inj (e.symm.trans h)
  · obtain rfl : s.outWord = w := Result.word.inj hw
    exact hs.stage_conforms (by rw [ho]; decide)
  · obtain rfl : frame s.params.crc e'.payload = w := Result.word.inj hw
    exact conformingWord_ctrlEntry s.params.crc e'
  · obtain rfl : frame s.params.crc (slotPayload s sid) = w := Result.word.inj hw
    exact hs.conformingWord_slot (firstPending_some hf).2 s.params.crc
  · cases hw

end Machine

end Sys2Proof

/-! ## The family of the codec: encode and decode invert each other, and decode tag by tag -/

namespace Sys2Proof

/-- Settles O1: the payload splits into the fields it was put together from, and a message's fields decode to it. -/
theorem decodeInvertsEncode : Obligations.DecodeInvertsEncode := Machine.decodePayload_encodePayload

/-- Settles O2: the fields of a payload that decodes are the message's own, and a payload is its fields. -/
theorem encodeInvertsDecode : Obligations.EncodeInvertsDecode := fun _ _ _ => encodePayload_of_decodePayload

/-! ### The encoder after the table decoder -/

/-- The row of a message is encoded as the codec encodes the message. -/
theorem encodeInput_ofMessage (sid : Sid) (m : Message) :
    encodeInput (Instr.ofMessage sid m) = .payload (encodePayload m sid) := by
  cases m <;> rfl

/-- No bit of a command's argument is dropped: each code's argument has the width of its operand (30_encoding.md R88). -/
theorem encodeInput_decodeCommand (c : Command) : encodeInput (decodeCommand c) = .command c := by
  obtain ⟨opc, arg⟩ := c
  rcases opc_cases opc with rfl | rfl | rfl | rfl | rfl | rfl | rfl | rfl
  · exact congrArg encodeInput (decodeCommand_reset arg)
  · exact congrArg encodeInput (decodeCommand_tick arg)
  · exact congrArg encodeInput (decodeCommand_enqueue arg)
  · exact congrArg encodeInput (decodeCommand_rxWord arg)
  · have harg : arg = 0#0 := BitVec.of_length_zero
    rw [harg]
    rfl
  · exact congrArg encodeInput (decodeCommand_reservedOp5 arg)
  · exact congrArg encodeInput (decodeCommand_reservedOp6 arg)
  · exact congrArg encodeInput (decodeCommand_reservedOp7 arg)

/-- Settles O5: a command is its code and argument, a wire word its two halves, a payload tag 7's fields or a message's encoding. -/
theorem tableEncodeInvertsDecode : Obligations.TableEncodeInvertsDecode := by
  intro r i h
  cases r with
  | command c =>
    obtain rfl := Except.ok.inj h
    exact encodeInput_decodeCommand c
  | word w =>
    obtain rfl := Except.ok.inj h
    exact congrArg Input.word (word_eq_halves w)
  | payload p16 =>
    rcases decodeFrame16_cases h with ⟨sid, pl, rfl, rfl⟩ | ⟨sid, m, rfl, rfl⟩
    · rfl
    · exact encodeInput_ofMessage sid m

/-! ### The decoder, tag by tag -/

/-- A field of one bit is 0 exactly if the bit is clear. -/
theorem extractLsb_self_eq_zero_iff {n : Nat} (x : BitVec n) (i : Nat) : x.extractLsb i i = 0 ↔ x.getLsbD i = false := by
  constructor
  · intro h
    have hbit := congrArg (·.getLsbD 0) h
    simpa using hbit
  · intro h
    ext j hj
    obtain rfl : j = 0 := by omega
    simpa using h

/-- The codec answers with the header's sid where the fields spell a message under a condition. -/
theorem decodePayload_of_decodeFields_ite {p16 : Payload} {c : Prop} [Decidable c] {m : Message}
    (h : decodeFields p16.tag p16.pl = if c then .ok m else .error .unknownEncoding) :
    decodePayload p16 = if c then .ok (p16.sid, m) else .error .unknownEncoding := by
  rw [decodePayload, h]
  by_cases hc : c
  · simp only [if_pos hc]
  · simp only [if_neg hc]

theorem decodePayload_of_decodeFields_ok {p16 : Payload} {m : Message} (h : decodeFields p16.tag p16.pl = .ok m) :
    decodePayload p16 = .ok (p16.sid, m) := by
  rw [decodePayload, h]

/-- Settles O3: tag by tag, the fields spell a message exactly if the reserved bits are 0. -/
theorem decodeByTag : Obligations.DecodeByTag := by
  intro p16 sid tag pl
  have fields : ∀ {k : BitVec 3}, tag = k → decodeFields p16.tag p16.pl = decodeFields k pl := fun h => h ▸ rfl
  refine ⟨fun hack => ?_, fun herror => ?_, fun hpress => ?_, fun hrelease => ?_, fun hhello => ?_, fun hanim => ?_,
    fun hlayer => ?_, fun hseven => ?_⟩
  · exact decodePayload_of_decodeFields_ite (fields hack)
  · exact decodePayload_of_decodeFields_ite (fields herror)
  · simp only [extractLsb_self_eq_zero_iff]
    exact decodePayload_of_decodeFields_ite (fields hpress)
  · simp only [extractLsb_self_eq_zero_iff]
    exact decodePayload_of_decodeFields_ite (fields hrelease)
  · exact decodePayload_of_decodeFields_ite (fields hhello)
  · exact decodePayload_of_decodeFields_ok (fields hanim)
  · exact decodePayload_of_decodeFields_ok (fields hlayer)
  · rw [decodePayload, fields hseven]
    rfl

end Sys2Proof

namespace Sys2Proof.Machine

/-! ### Verification -/

/-- Settles O8: a word whose high half is its payload's check value is that frame, since a word is its two halves. -/
theorem verifyAcceptsExactlyFrames : Obligations.VerifyAcceptsExactlyFrames := by
  intro P w
  refine ⟨frame_check P _, frame_payload P _, fun h => ?_, fun h => ?_⟩
  · have hcheck : w.extractLsb 31 16 = checksum P (w.extractLsb 15 0) := eq_of_beq h
    calc w = (w.extractLsb 31 16 ++ w.extractLsb 15 0 : WireWord) := (word_eq_halves w).symm
      _ = frame P (w.extractLsb 15 0) := by rw [hcheck]; rfl
  · rw [h]
    exact verify_frame P _

/-! ### A flipped bit -/

theorem flip_ne {n k : Nat} (v : BitVec n) (hk : k < n) : v ^^^ BitVec.twoPow n k ≠ v := by
  intro h
  have hbit := congrArg (·.getLsbD k) h
  simp [hk] at hbit

/-- A flip of bit `k` is, in a field from bit `lo` on, a flip of its bit `k - lo`. -/
theorem extractLsb_flip_of_le {n hi lo k : Nat} (v : BitVec n) (hlo : lo ≤ k) (hn : k < n) :
    (v ^^^ BitVec.twoPow n k).extractLsb hi lo = v.extractLsb hi lo ^^^ BitVec.twoPow (hi - lo + 1) (k - lo) := by
  apply BitVec.eq_of_getLsbD_eq
  intro i hwidth
  have hbit : k = lo + i ↔ i = k - lo := by omega
  have hin : i ≤ hi - lo := by omega
  simp [hn, hbit, hin]

/-- A bit flipped outside a field leaves the field as it was. -/
theorem extractLsb_flip_outside {n hi lo k : Nat} (v : BitVec n) (hle : lo ≤ hi) (hk : k < lo ∨ hi < k) :
    (v ^^^ BitVec.twoPow n k).extractLsb hi lo = v.extractLsb hi lo := by
  apply BitVec.eq_of_getLsbD_eq
  intro i hwidth
  have hbit : k ≠ lo + i := by omega
  simp [hbit]

/-- A difference in the register before a run of bytes runs through eight shifts a byte. -/
theorem foldl_crcByte_xor (P : CrcProfile) (bytes : List (BitVec 8)) (reg e : BitVec 16) :
    bytes.foldl (crcByte P) (reg ^^^ e) = bytes.foldl (crcByte P) reg ^^^ crcShifts P (8 * bytes.length) e := by
  induction bytes generalizing reg e with
  | nil => rfl
  | cons b bytes ih =>
    rw [List.foldl_cons, List.foldl_cons, crcByte_xor, ih, ← crcShifts_add, List.length_cons, Nat.mul_succ, Nat.add_comm]

/-- A flipped bit anywhere in a run of bytes changes its CRC: it enters the register as one bit, which the shifts that follow never lose (R124). -/
theorem crc16_flip_ne {P : CrcProfile} (hP : P.poly ≠ 0) {k : Nat} (hk : k < 8) (before after : List (BitVec 8)) (b : BitVec 8) :
    crc16 P (before ++ (b ^^^ BitVec.twoPow 8 k) :: after) ≠ crc16 P (before ++ b :: after) := by
  obtain ⟨i, hi, hflip⟩ := crcByte_flip P hk
  intro h
  have hreg := crcOut_injective P h
  rw [List.foldl_append, List.foldl_append, List.foldl_cons, List.foldl_cons, hflip, foldl_crcByte_xor, ← crcShifts_add,
    xor_left_eq_self_iff] at hreg
  exact crcShifts_twoPow_ne_zero hP _ hi hreg

/-- A flipped bit of a payload changes its checksum: it is a bit of the high byte or of the low one. -/
theorem checksum_flip_ne {P : CrcProfile} (hP : P.poly ≠ 0) (p16 : Payload) {k : Nat} (hk : k < 16) :
    checksum P (p16 ^^^ BitVec.twoPow 16 k) ≠ checksum P p16 := by
  unfold checksum
  by_cases hlow : k < 8
  · rw [extractLsb_flip_outside p16 (by omega) (.inl hlow), extractLsb_flip_of_le p16 (Nat.zero_le k) hk]
    exact crc16_flip_ne hP hlow [_] [] _
  · rw [extractLsb_flip_of_le p16 (by omega) hk, extractLsb_flip_outside p16 (by omega) (.inr (by omega))]
    exact crc16_flip_ne hP (by omega) [] [_] _

/-- Settles O9: in the payload a flipped bit asks for another check value than the frame holds, in the check value it is itself the difference. -/
theorem singleBitFlipIsDetected : Obligations.SingleBitFlipIsDetected := by
  intro P hP p16 k hk
  rw [verify, beq_eq_false_iff_ne]
  by_cases hlow : k < 16
  · rw [extractLsb_flip_outside _ (by omega) (.inl hlow), extractLsb_flip_of_le _ (Nat.zero_le k) hk, frame_check,
      frame_payload]
    exact (checksum_flip_ne hP p16 hlow).symm
  · rw [extractLsb_flip_of_le _ (by omega) hk, extractLsb_flip_outside _ (by omega) (.inr (by omega)), frame_check,
      frame_payload]
    exact flip_ne (checksum P p16) (by omega)

end Sys2Proof.Machine

/-! ## The family of the transmit rules: TICK's marking and ping, ENQUEUE, TX_SLOT, Ack and Error (42_transmit.md) -/

namespace Sys2Proof.Machine

/-! ### TICK with the link up -/

theorem linkTimedOut_iff (s : State) :
    linkTimedOut s = true ↔ s.linkState ≠ .disconnected ∧ 0 < s.twCount ∧ s.params.linkTimeout < s.curTime - s.liveRef := by
  simp only [linkTimedOut, Bool.and_eq_true, decide_eq_true_eq, and_assoc]
  rfl

/-- No timeout with an empty window, nor with the liveness timer at its bound or below (44_link.md R192). -/
theorem linkTimedOut_latchTime_of_live {now : Time} {s : State}
    (h : s.twCount = 0 ∨ now - s.liveRef ≤ s.params.linkTimeout) : linkTimedOut (latchTime now s) = false := by
  rw [Bool.eq_false_iff, Ne, linkTimedOut_iff]
  rintro ⟨-, hcount, hlate⟩
  rcases h with h | h
  · exact BitVec.ne_of_lt hcount h.symm
  · exact BitVec.not_lt.mpr h hlate

theorem pingDue_iff (s : State) :
    pingDue s = true ↔ s.linkState = .connected ∧ 3000 ≤ s.curTime - s.lastTxTime ∧ s.twCount < 32 := by
  simp only [pingDue, Bool.and_eq_true, decide_eq_true_eq, and_assoc]
  rfl

theorem overdue_iff (s : State) (i : Sid) :
    overdue s i = true ↔
      outstanding s i = true ∧ (s.slot i).pend = false ∧ s.params.ackTimeout < s.curTime - (s.slot i).timeSent := by
  simp only [overdue, Bool.and_eq_true, Bool.not_eq_true', decide_eq_true_eq, and_assoc]
  rfl

/-- The slots a TICK at `now` leaves after the ack timeout (42_transmit.md R146). -/
theorem markOverdue_latchTime_slot (now : Time) (s : State) (i : Sid) :
    (markOverdue (latchTime now s)).slot i =
      if outstanding s i = true ∧ (s.slot i).pend = false ∧ s.params.ackTimeout < now - (s.slot i).timeSent
      then { s.slot i with pend := true } else s.slot i := by
  simp only [markOverdue_slot, overdue_iff, latchTime_outstanding, latchTime_slot, latchTime_params, latchTime_curTime]

theorem newlyPending_report (s t : State) (r : Result) : newlyPending s (report r t) = newlyPending s t := rfl

/-- The record counts the slots that became pending, whatever happens beside to slots not outstanding (42_transmit.md R144). -/
theorem newlyPending_eq_overdueCount {now : Time} {s t : State}
    (h : ∀ i : Sid, outstanding s i = true → t.slot i = (markOverdue (latchTime now s)).slot i) :
    newlyPending s t = overdueCount (latchTime now s) := by
  refine List.countP_congr fun k _ => ?_
  rw [overdue_iff, latchTime_outstanding]
  cases ho : outstanding s (BitVec.ofFin k) with
  | false => simp
  | true =>
    rw [h _ ho, markOverdue_latchTime_slot, ho]
    split
    next h =>
      obtain ⟨-, hp, hlate⟩ := h
      simpa [hp] using hlate
    next h => simpa using h

/-- Settles O20: the link is up and not timed out, so TICK marks, and no ping is due. -/
theorem tickMarksOverdueSlots : Obligations.TickMarksOverdueSlots := by
  intro now s hl hlive hidle
  have hping : ¬ pingDue (markOverdue (latchTime now s)) = true := by
    rw [pingDue_iff]
    rintro ⟨hc, ht, hroom⟩
    rcases hidle with h | h | h
    · cases hc.symm.trans h
    · exact BitVec.not_le.mpr h ht
    · exact BitVec.not_le.mpr hroom h
  have hend := tickBody_of_up (linkTimedOut_latchTime_of_live hlive) hl
  rw [if_neg hping] at hend
  refine ⟨_, congrArg Host.Outcome.next hend, markOverdue_latchTime_slot now s, ?_⟩
  rw [newlyPending_report, newlyPending_eq_overdueCount (now := now) fun _ _ => rfl]
  rfl

/-- While there is room `next_sid` is not outstanding (42_transmit.md R131, R132). -/
theorem ne_nextSid_of_outstanding {s : State} (hc : s.twCount < 32) {i : Sid} (h : outstanding s i = true) : i ≠ nextSid s := by
  rintro rfl
  rw [outstanding_iff, nextSid] at h
  bv_omega

/-- Settles O21: the ping goes to `next_sid`, which no marking touches and no count sees. -/
theorem tickPushesThePing : Obligations.TickPushesThePing := by
  intro now s hl hlive hidle hroom
  have hping : pingDue (markOverdue (latchTime now s)) = true := (pingDue_iff _).mpr ⟨hl, hidle, hroom⟩
  have hend := tickBody_of_up (s := latchTime now s) (linkTimedOut_latchTime_of_live hlive) (by rw [latchTime_linkState, hl]; nofun)
  rw [if_pos hping] at hend
  have hother : ∀ i : Sid, i ≠ nextSid s →
      (pushPing (markOverdue (latchTime now s))).slot i = (markOverdue (latchTime now s)).slot i := fun i hi =>
    (twPush_slot _ _ i).trans (if_neg hi.symm)
  refine ⟨_, congrArg Host.Outcome.next hend, (twPush_slot _ _ _).trans (if_pos rfl), fun i hi => ?_, ?_⟩
  · exact (hother i hi).trans (markOverdue_latchTime_slot now s i)
  · rw [newlyPending_report, newlyPending_eq_overdueCount (now := now) fun i ho => hother i (ne_nextSid_of_outstanding hroom ho)]
    rfl

/-! ### ENQUEUE -/

/-- A descriptor is that of the message it decodes to (30_encoding.md R84). -/
theorem desc_of_decodePayload {desc : Desc} {sid : Sid} {m : Message} (h : decodePayload (0#5 ++ desc) = .ok (sid, m)) :
    m.desc = desc := by
  have hfields : (sid ++ m.desc : BitVec 16) = 0#5 ++ desc := (sid_append_desc sid m).trans (encodePayload_of_decodePayload h)
  have hnat := congrArg BitVec.toNat hfields
  rw [descriptor_toNat, descriptor_toNat] at hnat
  bv_omega

/-- Settles O22, end by end of ENQUEUE. -/
theorem enqueueInOrder : Obligations.EnqueueInOrder := by
  intro desc s
  rcases execEnqueue_cases desc s with ⟨ha, e⟩ | ⟨ha, hl, e⟩ | ⟨ha, hl, hc, e⟩ | ⟨hl, hc, sid, m, hd, -, ha, e⟩ <;>
    refine ⟨_, e, ?_⟩
  · rw [if_pos ha]
    rfl
  · rw [if_neg (by simp [ha]), if_pos hl]
    rfl
  · rw [if_neg (by simp [ha]), if_neg (not_not.mpr hl), if_pos (show s.twCount = 32 from hc)]
    rfl
  · rw [if_neg (by simp [ha]), if_neg (not_not.mpr hl), if_neg (show s.twCount ≠ 32 from hc)]
    refine ⟨?_, fun i hi => (twPush_slot m s i).trans (if_neg hi.symm), rfl⟩
    rw [← desc_of_decodePayload hd]
    exact (twPush_slot m s _).trans (if_pos rfl)

/-- In Connected, with room, an application message is pushed (42_transmit.md R134). -/
theorem execEnqueue_of_room {desc : Desc} {s : State} (ha : desc.isApplication = true) (hl : s.linkState = .connected)
    (hc : s.twCount ≠ Config.windowCap) :
    ∃ m, execEnqueue desc s = .next (report (.enqueued (nextSid s)) (twPush m s)) := by
  rcases execEnqueue_cases desc s with ⟨h, -⟩ | ⟨-, h, -⟩ | ⟨-, -, h, -⟩ | ⟨-, -, _, m, -, -, -, e⟩
  · cases ha.symm.trans h
  · exact absurd hl h
  · exact absurd h hc
  · exact ⟨m, e⟩

theorem enqueueAll_cons {d : Desc} {ds : List Desc} {s t : State} (h : exec (.enqueue d) s = .next t) :
    enqueueAll (d :: ds) s = (t.result :: (enqueueAll ds t).1, (enqueueAll ds t).2) := by
  simp only [enqueueAll, h]

/-- A push moves `next_sid` on by 1 (42_transmit.md R132, R133). -/
theorem nextSid_twPush (m : Message) (s : State) : nextSid (twPush m s) = nextSid s + 1#5 := by
  simp only [nextSid, twPush_twBase, twPush_twCount]
  bv_omega

/-- As many application messages as there is room for take the sids from `next_sid` on and fill that room. -/
theorem enqueueAll_of_room {ds : List Desc} {s : State} (ha : ∀ d ∈ ds, d.isApplication = true)
    (hl : s.linkState = .connected) (hroom : s.twCount.toNat + ds.length ≤ 32) :
    (enqueueAll ds s).1 = (List.range ds.length).map (fun k => Result.enqueued (nextSid s + BitVec.ofNat 5 k)) ∧
    (enqueueAll ds s).2.linkState = .connected ∧ (enqueueAll ds s).2.twCount.toNat = s.twCount.toNat + ds.length := by
  induction ds generalizing s with
  | nil => exact ⟨rfl, hl, rfl⟩
  | cons d ds ih =>
    rw [List.length_cons] at hroom
    rw [List.forall_mem_cons] at ha
    obtain ⟨m, e⟩ := execEnqueue_of_room ha.1 hl (by rw [Config.windowCap]; bv_omega)
    have hcount : (twPush m s).twCount.toNat = s.twCount.toNat + 1 := by
      rw [twPush_twCount]
      bv_omega
    obtain ⟨hres, hlink, hfilled⟩ := ih (s := report (.enqueued (nextSid s)) (twPush m s)) ha.2 hl
      (by rw [report_twCount, hcount]; omega)
    rw [enqueueAll_cons e]
    refine ⟨?_, hlink, by rw [hfilled, report_twCount, hcount, List.length_cons]; omega⟩
    have hnext : nextSid (report (.enqueued (nextSid s)) (twPush m s)) = nextSid s + 1#5 := nextSid_twPush m s
    rw [hres, hnext, List.length_cons, List.range_succ_eq_map, List.map_cons, List.map_map]
    have hshift : ∀ k, nextSid s + 1#5 + BitVec.ofNat 5 k = nextSid s + BitVec.ofNat 5 (k + 1) := fun k => by bv_omega
    simp [hshift, Function.comp_def]

/-- Settles O56: 32 messages fill an empty window, from `tw_base` on. -/
theorem windowTakesExactly32 : Obligations.WindowTakesExactly32 := by
  intro ds d s hl hc hlen ha
  rw [List.forall_mem_cons] at ha
  obtain ⟨hd, hds⟩ := ha
  obtain ⟨hres, hlink, hfilled⟩ := enqueueAll_of_room hds hl (by rw [hc, hlen]; decide)
  have hbase : nextSid s = s.twBase := by simp [nextSid, hc]
  refine ⟨by rw [hres, hlen, hbase], ?_⟩
  have hfull : (enqueueAll ds s).2.twCount = 32 := BitVec.eq_of_toNat_eq (by rw [hfilled, hc, hlen]; rfl)
  obtain ⟨t, e, ht⟩ := enqueueInOrder d (enqueueAll ds s).2
  rw [if_neg (by simp [hd]), if_neg (not_not.mpr hlink), if_pos hfull] at ht
  exact ⟨t, e, by rw [ht]⟩

/-! ### TX_SLOT -/

section
variable {s : State}

theorem execTxSlot_of_loaded (h : s.outLeft = 1) :
    execTxSlot s = .next (report (.word s.outWord) { s with outLeft := 0#1 }) := by
  simp [execTxSlot, h]

theorem execTxSlot_of_queued {e : CtrlEntry} {rest : List CtrlEntry} (h : s.outLeft = 0) (hq : s.ctrlq = e :: rest) :
    execTxSlot s = .next (sendFrame e.payload { s with ctrlq := rest }) := by
  simp [execTxSlot, h, hq]

theorem execTxSlot_of_pending {sid : Sid} (h : s.outLeft = 0) (hq : s.ctrlq = []) (hf : firstPending s = some sid) :
    execTxSlot s =
      .next (sendFrame (slotPayload s sid) (setSlot sid { s.slot sid with pend := false, timeSent := s.curTime } s)) := by
  simp [execTxSlot, h, hq, hf]

theorem execTxSlot_of_idle (h : s.outLeft = 0) (hq : s.ctrlq = []) (hf : firstPending s = none) :
    execTxSlot s = .next (report .nothing s) := by
  simp [execTxSlot, h, hq, hf]

end

/-- Settles O23: the stage holds the second copy. -/
theorem txSlotSendsSecondCopy : Obligations.TxSlotSendsSecondCopy :=
  fun _ h => ⟨_, execTxSlot_of_loaded h, rfl⟩

/-- Settles O24, for each kind of entry. -/
theorem txSlotSendsControlFirst : Obligations.TxSlotSendsControlFirst := by
  intro s ⟨kind, sid⟩ rest h hq
  cases kind <;> exact execTxSlot_of_queued h hq

/-- Settles O25: the slot of the smallest offset is the scheduler's choice. -/
theorem txSlotSendsOldestPending : Obligations.TxSlotSendsOldestPending := by
  intro s k h hq hk hp hmin
  refine ⟨_, execTxSlot_of_pending h hq (firstPending_eq_some hk hp hmin), setSlot_slot_self _ _ s, fun i hi => ?_, rfl⟩
  exact (setSlot_slot _ i _ s).trans (if_neg hi.symm)

/-- Settles O26: with no slot pending the scheduler chooses none. -/
theorem txSlotWithNothingToSend : Obligations.TxSlotWithNothingToSend :=
  fun s h hq hp => execTxSlot_of_idle h hq ((firstPending_eq_none_iff s).mpr hp)

/-! ### Ack and Error -/

section
variable {s : State} {a : Sid}

/-- An Ack of an outstanding sid retires through it, and in Handshaking completes the handshake (42_transmit.md R137, 44_link.md R188). -/
theorem receiveAck_of_outstanding (hl : s.linkState ≠ .disconnected) (ho : outstanding s a = true) :
    receiveAck a s = report .ackApplied { retireThrough a s with
      linkState := if s.linkState = .handshaking then .connected else s.linkState } := by
  rw [receiveAck, if_neg hl, onAck, if_pos ho]
  split <;> rfl

theorem receiveAck_of_stale (hl : s.linkState ≠ .disconnected) (ho : ¬ outstanding s a = true) :
    receiveAck a s = report .ackStale s := by
  rw [receiveAck, if_neg hl, onAck, if_neg ho]

theorem receiveError_of_outstanding (hl : s.linkState ≠ .disconnected) (ho : outstanding s a = true) :
    receiveError a s = report .errorApplied (markPending a s) := by
  rw [receiveError, if_neg hl, onError, if_pos ho]

theorem receiveError_of_stale (hl : s.linkState ≠ .disconnected) (ho : ¬ outstanding s a = true) :
    receiveError a s = report .errorStale s := by
  rw [receiveError, if_neg hl, onError, if_neg ho]

/-- The 6-bit count loses the slots retired without wrapping (42_transmit.md R137). -/
theorem twCount_retireThrough_toNat (ho : outstanding s a = true) :
    (retireThrough a s).twCount.toNat = s.twCount.toNat - ((a - s.twBase).toNat + 1) := by
  rw [outstanding_iff] at ho
  rw [retireThrough_twCount, offset]
  bv_omega

end

/-- Settles O32: the slots through the one acknowledged are retired, and a stale Ack writes the result alone. -/
theorem ackRetiresCumulatively : Obligations.AckRetiresCumulatively := by
  intro sid acked s hl
  by_cases ho : outstanding s acked = true
  · refine ⟨_, congrArg Host.Outcome.next (receiveAck_of_outstanding hl ho), ?_⟩
    rw [if_pos ho]
    refine ⟨twCount_retireThrough_toNat ho, fun i hi => ?_, fun i hi => ?_, rfl⟩
    · exact congrArg Slot.pend ((retireThrough_slot acked s i).trans (if_pos hi))
    · exact (retireThrough_slot acked s i).trans (if_neg (BitVec.not_le.mpr hi))
  · refine ⟨_, congrArg Host.Outcome.next (receiveAck_of_stale hl ho), ?_⟩
    rw [if_neg ho]
    rfl

/-- Settles O33: completing a handshake leaves the window as the retirement leaves it. -/
theorem ackLeavesTheRestOutstanding : Obligations.AckLeavesTheRestOutstanding := by
  intro sid acked s t hc hl ho e i
  obtain rfl := (receiveAck_of_outstanding hl ho).symm.trans (Host.Outcome.next.inj e)
  exact outstanding_retireThrough hc ho i

/-- Settles O34: an Error of an outstanding sid writes its slot, and a stale one the result alone. -/
theorem errorMarksOnlyItsSlot : Obligations.ErrorMarksOnlyItsSlot := by
  intro sid missing s hl
  by_cases ho : outstanding s missing = true
  · refine ⟨_, congrArg Host.Outcome.next (receiveError_of_outstanding hl ho), ?_⟩
    rw [if_pos ho]
    refine ⟨setSlot_slot_self _ _ s, fun i hi => ?_, rfl⟩
    exact (markPending_slot missing s i).trans (if_neg hi.symm)
  · refine ⟨_, congrArg Host.Outcome.next (receiveError_of_stale hl ho), ?_⟩
    rw [if_neg ho]
    rfl

end Sys2Proof.Machine

/-! ## The family of the receive path: words, sequenced frames, the SYNC Hello, and what is delivered and scheduled (43_receive.md) -/

namespace Sys2Proof.Machine

/-! ### Words and payloads -/

/-- FRAME of a word's halves is RX_WORD of the word (30_encoding.md R65). -/
theorem exec_frame_halves (w : WireWord) (s : State) :
    exec (.frame (w.extractLsb 31 16) (w.extractLsb 15 0)) s = exec (.rxWord w) s := by
  simp only [exec, execFrame, execRxWord, word_eq_halves]

theorem exec_rxWord_frame (p16 : Payload) (s : State) :
    exec (.rxWord (frame s.params.crc p16)) s = .next (receivePayload p16 s) :=
  congrArg Host.Outcome.next (receiveWord_frame p16 s)

theorem exec_frame_checksum (p16 : Payload) (s : State) :
    exec (.frame (checksum s.params.crc p16) p16) s = .next (receivePayload p16 s) :=
  exec_rxWord_frame p16 s

theorem receiveWord_of_unverified {w : WireWord} {s : State}
    (h : w.extractLsb 31 16 ≠ checksum s.params.crc (w.extractLsb 15 0)) :
    receiveWord w s = report .checksumMismatch s := by
  have hv : ¬ verify s.params.crc w = true := fun hv => h (beq_iff_eq.mp hv)
  rw [receiveWord, if_neg hv]

theorem receivePayload_of_ok {p16 : Payload} {sid : Sid} {m : Message} (h : decodePayload p16 = .ok (sid, m)) (s : State) :
    receivePayload p16 s = receiveMessage sid m s := by
  rw [receivePayload, h]

theorem receivePayload_of_error {p16 : Payload} {e : DecodeError} (h : decodePayload p16 = .error e) (s : State) :
    receivePayload p16 s = rejectUndecodable s := by
  rw [receivePayload, h]

/-- A payload the codec does not decode is tag 7's row or of no row (30_encoding.md R69, R77). -/
theorem decodeFrame16_of_undecodable {p16 : Payload} {e : DecodeError} (h : decodePayload p16 = .error e) :
    decodeFrame16 p16 = .ok (.reservedTag7 p16.sid p16.pl) ∨ decodeFrame16 p16 = .error e := by
  by_cases htag : p16.tag = 7#3
  · exact .inl (if_pos htag)
  · exact .inr (by rw [decodeFrame16, if_neg htag, h])

/-- Settles O29: the payload of the frame decodes to `(sid, m)`, whose row is the receipt of that message. -/
theorem wireWordRunsItsMessageRow : Obligations.WireWordRunsItsMessageRow := by
  intro sid m s
  have hrx : receivePayload (encodePayload m sid) s = receiveMessage sid m s :=
    receivePayload_of_ok (decodePayload_encodePayload m sid) s
  refine ⟨receiveMessage sid m s, ?_, ?_, exec_ofMessage sid m s⟩
  · rw [exec_rxWord_frame, hrx]
  · rw [exec_frame_checksum, hrx]

/-- Settles O11: such a payload is tag 7's row, which is discarded, or is discarded by the step itself. -/
theorem stepDiscardsUndecodablePayload : Obligations.StepDiscardsUndecodablePayload := by
  intro s p16 rest hok hp hd
  rcases decodeFrame16_of_undecodable hd with h | h
  · exact step_of_decoded hok hp h
  · exact step_of_undecodable hok hp h

/-- Settles O27: both instructions bring the same word, which stops at verification. -/
theorem unverifiedWordIsDiscarded : Obligations.UnverifiedWordIsDiscarded := by
  intro w s h
  have hrx : exec (.rxWord w) s = .next (report .checksumMismatch s) :=
    congrArg Host.Outcome.next (receiveWord_of_unverified h)
  exact ⟨hrx, (exec_frame_halves w s).trans hrx⟩

/-- Settles O28: the codec rejects the payload, or the receive path rejects the SYNC Hello's sid. -/
theorem undecodableWordIsDiscarded : Obligations.UndecodableWordIsDiscarded := by
  intro p16 s h
  have hrx : receivePayload p16 s = rejectUndecodable s := by
    rcases h with he | ⟨sid, hsid, hok⟩
    · exact receivePayload_of_error he s
    · exact (receivePayload_of_ok hok s).trans (if_neg hsid)
  rw [exec_rxWord_frame, exec_frame_checksum, hrx]
  exact ⟨rfl, rfl⟩

/-! ### The Disconnected gate -/

theorem receiveMessage_of_disconnected {m : Message} {s : State} (hl : s.linkState = .disconnected) (hm : m ≠ .hello true)
    (sid : Sid) : receiveMessage sid m s = report .ignored s := by
  cases m with
  | hello sync =>
    cases sync with
    | true => exact absurd rfl hm
    | false => exact if_pos hl
  | _ => exact if_pos hl

/-- Settles O31: the gate stands before the Ack, the Error and the ordering rules. -/
theorem disconnectedIgnoresFrames : Obligations.DisconnectedIgnoresFrames := by
  intro sid m s hl hm
  rw [exec_ofMessage, receiveMessage_of_disconnected hl hm]
  rfl

/-! ### Sequenced frames, by their forward distance (43_receive.md R171 to R175) -/

section
variable {s : State} {sid : Sid} {m : Message}

theorem forwardDistance_eq_zero_iff : forwardDistance s sid = 0#5 ↔ sid = s.rxCursor + 1 := by
  unfold forwardDistance expectedSid
  bv_omega

theorem forwardDistance_ne_zero (h : 1 ≤ (sid - (s.rxCursor + 1)).toNat) : forwardDistance s sid ≠ 0#5 := by
  unfold forwardDistance expectedSid
  bv_omega

theorem aheadMax_lt_forwardDistance_iff :
    Config.aheadMax < forwardDistance s sid ↔ 16 ≤ (sid - (s.rxCursor + 1)).toNat := by
  unfold Config.aheadMax forwardDistance expectedSid
  bv_omega

theorem exec_windowData (hm : isWindowData m = true) :
    exec (Instr.ofMessage sid m) s = .next (receiveSequenced sid m s) := by
  rw [exec_ofMessage, receiveMessage_windowData hm]

theorem receiveSequenced_of_expected (hl : s.linkState ≠ .disconnected) (hsid : sid = s.rxCursor + 1) :
    receiveSequenced sid m s = accept sid m s := by
  rw [receiveSequenced, if_neg hl, if_pos (forwardDistance_eq_zero_iff.mpr hsid)]

theorem receiveSequenced_of_stale (hl : s.linkState ≠ .disconnected) (hd : 16 ≤ (sid - (s.rxCursor + 1)).toNat) :
    receiveSequenced sid m s = report .duplicate (ctrlSchedule .ack s.rxCursor s) := by
  have h0 := forwardDistance_ne_zero (Nat.le_trans (by decide) hd)
  rw [receiveSequenced, if_neg hl, if_neg h0, if_pos (aheadMax_lt_forwardDistance_iff.mpr hd)]

theorem receiveSequenced_of_gap (hl : s.linkState ≠ .disconnected) (h1 : 1 ≤ (sid - (s.rxCursor + 1)).toNat)
    (h15 : (sid - (s.rxCursor + 1)).toNat ≤ 15) :
    receiveSequenced sid m s = report .sequenceGap (ctrlSchedule .error (expectedSid s) s) := by
  have hnear : ¬ Config.aheadMax < forwardDistance s sid := fun h =>
    absurd (aheadMax_lt_forwardDistance_iff.mp h) (Nat.not_le.mpr (Nat.lt_succ_of_le h15))
  rw [receiveSequenced, if_neg hl, if_neg (forwardDistance_ne_zero h1), if_neg hnear]

/-- A sequenced message in order is accepted, whatever its kind: the cursor moves to it, it is acknowledged and delivered (43_receive.md R172, R173). -/
theorem exec_of_expected (hm : isWindowData m = true) (hl : s.linkState ≠ .disconnected) (hsid : sid = s.rxCursor + 1) :
    exec (Instr.ofMessage sid m) s = .next { s with
      rxCursor := sid, ctrlq := queueAfter s.ctrlq ⟨.ack, sid⟩, ctrlqOverflow := overflowAfter s.ctrlq s.ctrlqOverflow,
      result := .accepted, keyPort := keyEventOf m, rgbPort := rgbEventOf m } := by
  rw [exec_windowData hm, receiveSequenced_of_expected hl hsid]
  rfl

end

/-- Settles O36: in-order acceptance, for each of the two kinds. -/
theorem keyEventsAcceptedInOrder : Obligations.KeyEventsAcceptedInOrder :=
  fun _ row col _ hl hsid =>
    ⟨exec_of_expected (m := .press row col) rfl hl hsid, exec_of_expected (m := .release row col) rfl hl hsid⟩

/-- Settles O37: in-order acceptance, for each of the two kinds. -/
theorem rgbEventsAcceptedInOrder : Obligations.RgbEventsAcceptedInOrder :=
  fun _ n _ hl hsid =>
    ⟨exec_of_expected (m := .rgbChangeAnim n) rfl hl hsid, exec_of_expected (m := .rgbLayerChange n) rfl hl hsid⟩

/-- Settles O38: a ping is sequenced, and puts nothing on either port. -/
theorem pingAcceptedNotDelivered : Obligations.PingAcceptedNotDelivered :=
  fun _ _ hl hsid => exec_of_expected (m := .hello false) rfl hl hsid

/-- Settles O39, for every sequenced message at once. -/
theorem staleFrameIsReacknowledged : Obligations.StaleFrameIsReacknowledged := by
  intro sid m s hm hl hd
  rw [exec_windowData hm, receiveSequenced_of_stale hl hd]
  rfl

/-- Settles O40, for every sequenced message at once. -/
theorem gapRequestsReplay : Obligations.GapRequestsReplay := by
  intro sid m s hm hl h1 h15
  rw [exec_windowData hm, receiveSequenced_of_gap hl h1 h15]
  rfl

/-! ### The same frame twice -/

/-- Among the sequenced messages only the ping is delivered to no one (40_codec.md R112). -/
theorem no_event_iff_ping {m : Message} (hm : isWindowData m = true) :
    (keyEventOf m = none ∧ rgbEventOf m = none) ↔ m = .hello false := by
  cases m with
  | hello sync =>
    cases sync with
    | true => cases hm
    | false => exact ⟨fun _ => rfl, fun _ => ⟨rfl, rfl⟩⟩
  | ack a => cases hm
  | error a => cases hm
  | _ => simp [keyEventOf, rgbEventOf]

/-- Two entries fit in a queue of at most six (42_transmit.md R157). -/
theorem queueAfter_twice {q : List CtrlEntry} (h : q.length ≤ 6) (e f : CtrlEntry) :
    queueAfter (queueAfter q e) f = q ++ [e, f] := by
  have h1 : queueAfter q e = q ++ [e] := if_pos (by omega)
  have h2 : queueAfter (q ++ [e]) f = (q ++ [e]) ++ [f] := if_pos (by rw [List.length_append, List.length_singleton]; omega)
  rw [h1, h2, List.append_assoc, List.singleton_append]

/-- Settles O41: the acceptance leaves the cursor at the frame's sid, from where the same sid lies 31 ahead. -/
theorem duplicateIsDeliveredOnce : Obligations.DuplicateIsDeliveredOnce := by
  intro sid m s t u hm hl hsid ht hu
  rw [exec_windowData hm, receiveSequenced_of_expected hl hsid] at ht
  obtain rfl := Host.Outcome.next.inj ht
  have hfar : 16 ≤ (sid - ((accept sid m s).rxCursor + 1)).toNat := by
    show 16 ≤ (sid - (sid + 1)).toNat
    bv_omega
  rw [exec_windowData hm, receiveSequenced_of_stale (s := accept sid m s) hl hfar] at hu
  obtain rfl := Host.Outcome.next.inj hu
  exact ⟨rfl, rfl, rfl, no_event_iff_ping hm, rfl, rfl, rfl, rfl, fun hroom => queueAfter_twice hroom _ _⟩

/-! ### The SYNC Hello -/

/-- On a responder the rx resync comes first, then the tx resync (43_receive.md R168, 44_link.md R190). -/
theorem receiveSync_of_responder {s : State} (hr : s.role = .responder) :
    receiveSync 0#5 s = report .sync (txResync (ctrlSchedule .ack 0#5 (moveCursor 0#5 s))) := by
  rw [receiveSync, if_pos rfl]
  exact congrArg (report .sync) (if_pos hr)

/-- Settles O42: the tx resync writes slot 0 and clears the pending bit of every other. -/
theorem syncHelloOnResponder : Obligations.SyncHelloOnResponder := by
  intro s hr
  refine ⟨_, congrArg Host.Outcome.next (receiveSync_of_responder hr), ?_, fun i hi => ?_, ?_⟩
  · exact (txResync_slot _ 0#5).trans (if_pos rfl)
  · exact congrArg Slot.pend ((txResync_slot _ i).trans (if_neg hi.symm))
  · simp [ctrlSchedule_eq]

/-! ### What is delivered and what is scheduled, over every instruction -/

section
variable {s t : State}

/-- The receive path delivers only what it accepts in order (43_receive.md R172, R173). -/
theorem ReceiveEnd.accepted_of_delivery {sid : Sid} {m : Message} (h : ReceiveEnd s sid m t) (hq : ¬ quiet t) :
    s.linkState ≠ .disconnected ∧ sid = s.rxCursor + 1 ∧ t = accept sid m s := by
  cases h with
  | accepted _ hl hd => exact ⟨hl, forwardDistance_eq_zero_iff.mp hd, rfl⟩
  | _ => exact absurd ⟨rfl, rfl⟩ hq

/-- Only the receive path delivers (60_exceptions.md R215, R216). -/
theorem ExecEnd.received_of_delivery {i : Instr} (h : ExecEnd s i t) (hq : ¬ quiet t) :
    ∃ sid m, received s.params.crc i = some (sid, m) ∧ ReceiveEnd s sid m t := by
  cases h with
  | receive hm ht => exact ⟨_, _, hm, ht⟩
  | _ => exact absurd ⟨rfl, rfl⟩ hq

/-- A message that puts anything on a port is a key or an RGB message, and puts itself on its own port only (40_codec.md R112). -/
theorem event_cases {m : Message} (h : ¬ (keyEventOf m = none ∧ rgbEventOf m = none)) :
    (∃ r c, m = .press r c ∧ keyEventOf m = some (.press r c) ∧ rgbEventOf m = none) ∨
    (∃ r c, m = .release r c ∧ keyEventOf m = some (.release r c) ∧ rgbEventOf m = none) ∨
    (∃ n, m = .rgbChangeAnim n ∧ keyEventOf m = none ∧ rgbEventOf m = some (.changeAnim n)) ∨
    (∃ n, m = .rgbLayerChange n ∧ keyEventOf m = none ∧ rgbEventOf m = some (.layerChange n)) := by
  cases m with
  | press r c => exact .inl ⟨r, c, rfl, rfl, rfl⟩
  | release r c => exact .inr (.inl ⟨r, c, rfl, rfl, rfl⟩)
  | rgbChangeAnim n => exact .inr (.inr (.inl ⟨n, rfl, rfl, rfl⟩))
  | rgbLayerChange n => exact .inr (.inr (.inr ⟨n, rfl, rfl, rfl⟩))
  | _ => exact absurd ⟨rfl, rfl⟩ h

/-- What the receive path schedules names the cursor it leaves, or the sid after it (43_receive.md R182). -/
theorem ReceiveEnd.mem_ctrlq {sid : Sid} {m : Message} (h : ReceiveEnd s sid m t) {e : CtrlEntry} (he : e ∈ t.ctrlq) :
    e ∈ s.ctrlq ∨ e = ⟨.ack, t.rxCursor⟩ ∨ e = ⟨.error, t.rxCursor + 1⟩ := by
  cases h with
  | initiatorSynced => exact (mem_queueAfter he).imp_right .inl
  | responderSynced => exact (mem_queueAfter he).imp_right .inl
  | accepted => exact (mem_queueAfter he).imp_right .inl
  | duplicate => exact (mem_queueAfter he).imp_right .inl
  | gap => exact (mem_queueAfter he).imp_right .inr
  | _ => exact .inl he

end

/-- Settles O52: a delivery comes from the receive path, and there from an acceptance. -/
theorem onlyInOrderFramesAreDelivered : Obligations.OnlyInOrderFramesAreDelivered := by
  intro i s t h hq
  obtain ⟨sid, m, hm, hend⟩ := (exec_end h).received_of_delivery hq
  obtain ⟨hl, hsid, rfl⟩ := hend.accepted_of_delivery hq
  exact ⟨sid, m, hm, hl, hsid, rfl, rfl, event_cases hq⟩

/-- Settles O53: RESET and a link timeout empty the queue, TX_SLOT drops its head, and only the receive path schedules. -/
theorem scheduledFeedbackIsTrue : Obligations.ScheduledFeedbackIsTrue := by
  intro i s t e h he
  cases exec_end h with
  | receive _ ht => exact ht.mem_ctrlq he
  | reset b => cases he
  | linkTimedOut now => cases he
  | controlSent _ hq => exact .inl (hq ▸ List.mem_cons_of_mem _ he)
  | _ => exact .inl he

end Sys2Proof.Machine

/-! ## The family of the link: the handshake, the liveness timeout, and every transition of the link state (44_link.md) -/

namespace Sys2Proof.Machine

/-! ### The transitions of the link state -/

/-- In Handshaking the only sid that can be outstanding is that of the SYNC Hello, alone in a window at 0 (44_link.md R186, R190). -/
theorem Inv.window_of_handshaking {s : State} {a : Sid} (hs : Inv s) (hl : s.linkState = .handshaking)
    (ho : outstanding s a = true) : a = 0 ∧ s.twBase = 0 ∧ s.twCount = 1 := by
  obtain ⟨hcount, honly⟩ := hs.handshaking_sync hl
  obtain ⟨rfl, -⟩ := honly a ho
  rw [outstanding_iff] at ho
  refine ⟨rfl, ?_, ?_⟩ <;> bv_omega

/-- Retiring a SYNC Hello that is alone in a window at 0 leaves the window empty at 1 (44_link.md R188). -/
theorem retireThrough_sync {s : State} (hb : s.twBase = 0) (hc : s.twCount = 1) :
    (retireThrough 0#5 s).twCount = 0 ∧ (retireThrough 0#5 s).twBase = 1 := by
  rw [retireThrough_twCount, retireThrough_twBase, offset, hb, hc]
  decide

/-- The receive path moves the link in two ways: a responder's tx resync and the Ack that completes a handshake (44_link.md R188, R190). -/
theorem ReceiveEnd.linkState_cases {s t : State} {sid : Sid} {m : Message} (hs : Inv s) (h : ReceiveEnd s sid m t) :
    t.linkState = s.linkState ∨
    (sid = 0 ∧ m = .hello true ∧ s.role = .responder ∧ t.linkState = .handshaking) ∨
    (m = .ack 0 ∧ s.linkState = .handshaking ∧ outstanding s 0 = true ∧ t.linkState = .connected ∧
      t.twCount = 0 ∧ t.twBase = 1) := by
  cases h with
  | handshakeAcked hl ho =>
    obtain ⟨rfl, hb, hc⟩ := hs.window_of_handshaking hl ho
    obtain ⟨hcount, hbase⟩ := retireThrough_sync hb hc
    exact .inr (.inr ⟨rfl, hl, ho, rfl, hcount, hbase⟩)
  | responderSynced hr => exact .inr (.inl ⟨rfl, rfl, hr, rfl⟩)
  | _ => exact .inl rfl

/-- Settles O50: beside the receive path only RESET and two ends of TICK write the link state. -/
theorem linkChangesOnlyAsListed : Obligations.LinkChangesOnlyAsListed := by
  intro i s t hs h hne
  cases exec_end h with
  | receive hm ht =>
    rcases ht.linkState_cases hs with hsame | ⟨rfl, rfl, hr, ht⟩ | ⟨rfl, hack⟩
    · exact absurd hsame hne
    · exact .inr (.inr (.inl ⟨hm, hr, ht⟩))
    · exact .inr (.inr (.inr (.inl ⟨_, hm, hack⟩)))
  | reset b => exact .inl ⟨b, rfl, rfl⟩
  | handshakeStarted now hl hr => exact .inr (.inl ⟨now, rfl, hl, hr, rfl⟩)
  | linkTimedOut now hout =>
    obtain ⟨hl, hc, hlate⟩ := (linkTimedOut_iff _).mp hout
    exact .inr (.inr (.inr (.inr ⟨now, rfl, hl, hc, hlate, rfl⟩)))
  | _ => exact absurd rfl hne

/-! ### TICK's link procedures -/

/-- Settles O17: the guard of the timeout is met once the time is latched, and its only effect is the link reset. -/
theorem tickTimesOutTheLink : Obligations.TickTimesOutTheLink := by
  intro now s hl hc hlate
  have hout : linkTimedOut (latchTime now s) = true := (linkTimedOut_iff _).mpr ⟨hl, hc, hlate⟩
  exact ⟨_, congrArg Host.Outcome.next (tickBody_of_timedOut hout), fun i => congrArg Slot.pend (linkReset_slot _ i), rfl⟩

theorem exec_tick_of_initiator {now : Time} {s : State} (hl : s.linkState = .disconnected) (hr : s.role = .initiator) :
    exec (.tick now) s = .next (report (.tick { handshakeStarted := true }) (handshakeStart (latchTime now s))) :=
  congrArg Host.Outcome.next ((tickBody_of_disconnected (s := latchTime now s) hl).trans (if_pos hr))

theorem exec_tick_of_responder {now : Time} {s : State} (hl : s.linkState = .disconnected) (hr : s.role = .responder) :
    exec (.tick now) s = .next (report (.tick {}) (latchTime now s)) :=
  congrArg Host.Outcome.next ((tickBody_of_disconnected (s := latchTime now s) hl).trans (if_neg (by simp [hr])))

/-- The handshake's push goes to sid 0 of an empty window at 0 (44_link.md R186). -/
theorem handshakeStart_slot_of_empty {s : State} (hb : s.twBase = 0) (hc : s.twCount = 0) (i : Sid) :
    (handshakeStart s).slot i =
      if 0#5 = i then { msg := (Message.hello true).desc, timeSent := s.curTime, pend := true } else s.slot i := by
  have hnext : nextSid s = 0#5 := by simp [nextSid, hb, hc]
  rw [handshakeStart_slot, twPush_slot, hnext]

/-- Settles O18: on an initiator in Disconnected the TICK is the handshake start. -/
theorem tickStartsTheHandshake : Obligations.TickStartsTheHandshake := by
  intro now s hl hr hb hc
  have hslot := handshakeStart_slot_of_empty (s := latchTime now s) hb hc
  refine ⟨_, exec_tick_of_initiator hl hr, (hslot 0#5).trans (if_pos rfl), fun i hi => (hslot i).trans (if_neg hi.symm), ?_⟩
  simp [hc]

/-- Settles O19: a responder waits for the initiator's SYNC Hello. -/
theorem tickOnWaitingResponder : Obligations.TickOnWaitingResponder :=
  fun _ _ => exec_tick_of_responder

/-! ### The SYNC Hello on an initiator -/

/-- An initiator makes the rx resync only (43_receive.md R168, 44_link.md R191). -/
theorem receiveSync_of_initiator {s : State} (hr : s.role = .initiator) :
    receiveSync 0#5 s = report .sync (ctrlSchedule .ack 0#5 (moveCursor 0#5 s)) := by
  rw [receiveSync, if_pos rfl]
  exact congrArg (report .sync) (if_neg (by simp [hr]))

/-- Settles O43: the cursor and the control queue are all that the rx resync writes. -/
theorem syncHelloOnInitiator : Obligations.SyncHelloOnInitiator :=
  fun _ hr => congrArg Host.Outcome.next (receiveSync_of_initiator hr)

end Sys2Proof.Machine

/-! ## The handshake of two endpoints (44_link.md R203) -/

namespace Sys2Proof.Machine

/-! ### What an endpoint does in the handshake -/

/-- The link with the window that carries its SYNC Hello: `tw_base`, `tw_count` and slot 0. -/
structure LinkView where
  linkState : LinkState
  twBase    : Sid
  twCount   : BitVec 6
  msg       : Desc
  pend      : Bool

/-- Handshaking, the SYNC Hello alone in a window at 0, still to be sent or sent (44_link.md R186, R190). -/
def LinkView.syncing (pend : Bool) : LinkView := ⟨.handshaking, 0, 1, (Message.hello true).desc, pend⟩

/-- Connected, the SYNC Hello retired from slot 0 (44_link.md R188). -/
def LinkView.up : LinkView := ⟨.connected, 1, 0, (Message.hello true).desc, false⟩

/-- What the handshake reads and writes of an endpoint. -/
structure EndView where
  crc      : CrcProfile
  role     : Role
  link     : LinkView
  rxCursor : Sid
  ctrlq    : List CtrlEntry
  outLeft  : BitVec 1

/-- The view of an endpoint's state. -/
def endView (s : State) : EndView where
  crc      := s.params.crc
  role     := s.role
  link     := ⟨s.linkState, s.twBase, s.twCount, (s.slot 0).msg, (s.slot 0).pend⟩
  rxCursor := s.rxCursor
  ctrlq    := s.ctrlq
  outLeft  := s.outLeft

/-- A TX_SLOT hands out `w` and leaves `t`. -/
def Sends (s : State) (w : WireWord) (t : State) : Prop :=
  exec .txSlot s = .next t ∧ t.result = .word w

section
variable {s : State} {P : CrcProfile} {r : Role} {l : LinkView} {c : Sid} {q : List CtrlEntry} {n : BitVec 1} {b : Bool}

theorem window_of_endView (h : endView s = ⟨P, r, l, c, q, n⟩) :
    s.linkState = l.linkState ∧ s.twBase = l.twBase ∧ s.twCount = l.twCount ∧ (s.slot 0).msg = l.msg ∧
    (s.slot 0).pend = l.pend := by
  cases h
  exact ⟨rfl, rfl, rfl, rfl, rfl⟩

theorem window_of_syncing (h : endView s = ⟨P, r, .syncing b, c, q, n⟩) :
    s.linkState = .handshaking ∧ s.twBase = 0 ∧ s.twCount = 1 ∧ (s.slot 0).msg = (Message.hello true).desc ∧
    (s.slot 0).pend = b :=
  window_of_endView h

/-- The TICK that starts the handshake (44_link.md R186). -/
theorem endView_handshakeStart (now : Time) {m : Desc} (h : endView s = ⟨P, .initiator, ⟨.disconnected, 0, 0, m, b⟩, c, q, n⟩) :
    ∃ t, exec (.tick now) s = .next t ∧ endView t = ⟨P, .initiator, .syncing true, c, q, n⟩ := by
  obtain ⟨hl, hb, hc, -, -⟩ := window_of_endView h
  refine ⟨_, exec_tick_of_initiator hl (congrArg EndView.role h), ?_⟩
  have hslot := handshakeStart_slot_of_empty (s := latchTime now s) hb hc 0#5
  refine Eq.trans ?_ (congrArg ({ · with link := .syncing true }) h)
  simp [endView, LinkView.syncing, hslot, hb, hc]

theorem sends_secondCopy (h : endView s = ⟨P, r, l, c, q, 1⟩) :
    ∃ w t, Sends s w t ∧ endView t = ⟨P, r, l, c, q, 0⟩ :=
  ⟨_, _, ⟨execTxSlot_of_loaded (congrArg EndView.outLeft h), rfl⟩, congrArg ({ · with outLeft := 0 }) h⟩

theorem sends_ack {a : Sid} (h : endView s = ⟨P, r, l, c, ⟨.ack, a⟩ :: q, 0⟩) :
    ∃ t, Sends s (frame P (encodePayload (.ack a) a)) t ∧ endView t = ⟨P, r, l, c, q, 1⟩ := by
  obtain rfl : s.params.crc = P := congrArg EndView.crc h
  exact ⟨_, ⟨execTxSlot_of_queued (congrArg EndView.outLeft h) (congrArg EndView.ctrlq h), rfl⟩,
    congrArg ({ · with ctrlq := q, outLeft := 1 }) h⟩

/-- The SYNC Hello, pending alone in a window at 0, is what the scheduler chooses once the control queue is empty (42_transmit.md R153). -/
theorem sends_sync (h : endView s = ⟨P, r, .syncing true, c, [], 0⟩) :
    ∃ t, Sends s (frame P (encodePayload (.hello true) 0)) t ∧ endView t = ⟨P, r, .syncing false, c, [], 1⟩ := by
  obtain rfl : s.params.crc = P := congrArg EndView.crc h
  obtain ⟨hl, hb, hc, hm, hp⟩ := window_of_syncing h
  have hbase : s.twBase + BitVec.ofNat 5 0 = 0 := by rw [hb]; rfl
  have hfirst : firstPending s = some (s.twBase + BitVec.ofNat 5 0) :=
    firstPending_eq_some (by rw [hc]; decide) (by rw [hbase]; exact hp) nofun
  rw [hbase] at hfirst
  have hword : slotPayload s 0 = encodePayload (.hello true) 0 := by rw [slotPayload, hm]; exact sid_append_desc 0 _
  refine ⟨_, ⟨execTxSlot_of_pending (congrArg EndView.outLeft h) (congrArg EndView.ctrlq h) hfirst, by rw [← hword]; rfl⟩, ?_⟩
  refine Eq.trans ?_ (congrArg ({ · with link := .syncing false, outLeft := 1 }) h)
  have hmsg : (s.slot 0#5).msg = (Message.hello true).desc := hm
  simp [endView, LinkView.syncing, hl, hb, hc, hmsg]

/-- The Ack of the SYNC Hello completes the handshake (44_link.md R188). -/
theorem endView_receiveAck (h : endView s = ⟨P, r, .syncing false, c, q, n⟩) :
    endView (receiveMessage 0 (.ack 0) s) = ⟨P, r, .up, c, q, n⟩ := by
  obtain ⟨hl, hb, hc, hm, -⟩ := window_of_syncing h
  have ho : outstanding s 0#5 = true := by
    rw [outstanding_iff, hb, hc]
    decide
  obtain ⟨hcount, hbase⟩ := retireThrough_sync hb hc
  have hslot : (retireThrough 0#5 s).slot 0 = { s.slot 0 with pend := false } :=
    (retireThrough_slot 0#5 s 0#5).trans (if_pos (BitVec.le_refl _))
  have hmsg : ((retireThrough 0#5 s).slot 0).msg = (Message.hello true).desc := (congrArg Slot.msg hslot).trans hm
  have hpend : ((retireThrough 0#5 s).slot 0).pend = false := congrArg Slot.pend hslot
  calc endView (receiveMessage 0 (.ack 0) s)
      = { endView s with link := ⟨if s.linkState = .handshaking then .connected else s.linkState,
            (retireThrough 0#5 s).twBase, (retireThrough 0#5 s).twCount, ((retireThrough 0#5 s).slot 0).msg,
            ((retireThrough 0#5 s).slot 0).pend⟩ } :=
        congrArg endView (receiveAck_of_outstanding (by rw [hl]; nofun) ho)
    _ = { endView s with link := .up } := by rw [if_pos hl, hbase, hcount, hmsg, hpend]; rfl
    _ = ⟨P, r, .up, c, q, n⟩ := by rw [h]

/-- The rx resync of an initiator (44_link.md R191). -/
theorem endView_receiveSync_initiator (h : endView s = ⟨P, .initiator, l, c, [], n⟩) :
    endView (receiveMessage 0 (.hello true) s) = ⟨P, .initiator, l, 0, [⟨.ack, 0⟩], n⟩ := by
  refine (congrArg endView (receiveSync_of_initiator (congrArg EndView.role h))).trans ?_
  exact congrArg (fun v => { v with rxCursor := 0, ctrlq := queueAfter v.ctrlq ⟨.ack, 0⟩ }) h

/-- The rx resync and the tx resync of a responder (44_link.md R190). -/
theorem endView_receiveSync_responder (h : endView s = ⟨P, .responder, l, c, [], n⟩) :
    endView (receiveMessage 0 (.hello true) s) = ⟨P, .responder, .syncing true, 0, [⟨.ack, 0⟩], n⟩ := by
  refine (congrArg endView (receiveSync_of_responder (congrArg EndView.role h))).trans (Eq.trans ?_ <|
    congrArg (fun v => { v with link := .syncing true, rxCursor := 0, ctrlq := queueAfter v.ctrlq ⟨.ack, 0⟩ }) h)
  simp [endView, LinkView.syncing, txResync_slot, ctrlSchedule_eq]

end

/-! ### The system's endpoints and channels -/

section
variable (y : System) (side : Side)

theorem endpoint_setEndpoint (s : State) : (y.setEndpoint side s).endpoint side = s := by
  cases side <;> rfl

theorem endpoint_other_setEndpoint (s : State) : (y.setEndpoint side s).endpoint side.other = y.endpoint side.other := by
  cases side <;> rfl

theorem incoming_setEndpoint (other : Side) (s : State) : (y.setEndpoint other s).incoming side = y.incoming side := by
  cases side <;> cases other <;> rfl

theorem incoming_setIncoming (ws : List WireWord) : (y.setIncoming side ws).incoming side = ws := by
  cases side <;> rfl

theorem setIncoming_setIncoming (ws vs : List WireWord) : (y.setIncoming side ws).setIncoming side vs = y.setIncoming side vs := by
  cases side <;> rfl

theorem setIncoming_incoming : y.setIncoming side (y.incoming side) = y := by
  cases side <;> rfl

/-! ### Events of the system, in pairs: the word sent arrives or is lost -/

variable {y side} {w : WireWord} {t : State}

theorem operate_of_next {i : Instr} (h : exec i (y.endpoint side) = .next t) : y.operate side i = y.setEndpoint side t := by
  rw [System.operate, h]

theorem happen_send (h : Sends (y.endpoint side) w t) (hq : y.incoming side.other = []) :
    y.happen (.send side) = (y.setEndpoint side t).setIncoming side.other [w] := by
  obtain ⟨he, hw⟩ := h
  show (y.operate side .txSlot).emit side = _
  rw [operate_of_next he, System.emit, endpoint_setEndpoint, hw]
  show (y.setEndpoint side t).setIncoming side.other ((y.setEndpoint side t).incoming side.other ++ [w]) = _
  rw [incoming_setEndpoint, hq, List.nil_append]

theorem setIncoming_drained (hq : y.incoming side.other = []) :
    ((y.setEndpoint side t).setIncoming side.other [w]).setIncoming side.other [] = y.setEndpoint side t := by
  rw [setIncoming_setIncoming, ← hq, ← incoming_setEndpoint y side.other side t, setIncoming_incoming]

theorem happen_lose {v : WireWord} {ws : List WireWord} (h : y.incoming side = v :: ws) :
    y.happen (.lose side) = y.setIncoming side ws := by
  rw [System.happen, h, List.tail_cons]

theorem happen_arrive {v : WireWord} {ws : List WireWord} (h : y.incoming side = v :: ws) :
    y.happen (.arrive side) = (y.setIncoming side ws).operate side (.rxWord v) := by
  rw [System.happen, h]

theorem run_tick (y : System) (side : Side) {now : Time} (h : exec (.tick now) (y.endpoint side) = .next t) (es : List SysEvent) :
    y.run (.tick side now :: es) = (y.setEndpoint side t).run es :=
  congrArg (System.run · es) (operate_of_next h)

theorem run_send_lose (y : System) (side : Side) (h : Sends (y.endpoint side) w t) (hq : y.incoming side.other = [])
    (es : List SysEvent) : y.run (.send side :: .lose side.other :: es) = (y.setEndpoint side t).run es := by
  show ((y.happen (.send side)).happen (.lose side.other)).run es = _
  rw [happen_send h hq, happen_lose (incoming_setIncoming _ _ _), setIncoming_drained hq]

theorem run_send_arrive (y : System) (side : Side) {P : CrcProfile} {m : Message} {sid : Sid}
    (h : Sends (y.endpoint side) (frame P (encodePayload m sid)) t) (hP : (y.endpoint side.other).params.crc = P)
    (hq : y.incoming side.other = []) (es : List SysEvent) :
    y.run (.send side :: .arrive side.other :: es) =
      ((y.setEndpoint side t).setEndpoint side.other (receiveMessage sid m (y.endpoint side.other))).run es := by
  subst hP
  have hrx : exec (.rxWord (frame (y.endpoint side.other).params.crc (encodePayload m sid))) (y.endpoint side.other) =
      .next (receiveMessage sid m (y.endpoint side.other)) := by
    rw [exec_rxWord_frame, receivePayload_of_ok (decodePayload_encodePayload m sid)]
  show ((y.happen (.send side)).happen (.arrive side.other)).run es = _
  rw [happen_send h hq, happen_arrive (incoming_setIncoming _ _ _), setIncoming_drained hq,
    operate_of_next (by rw [endpoint_other_setEndpoint]; exact hrx)]

end

/-- Settles O57: each end goes through its own steps of the handshake, and in pairs of events the words sent bring the two together. -/
theorem handshakeConnectsBothEnds : Obligations.HandshakeConnectsBothEnds := by
  intro a b now hra hrb hcrc hla hba hca hqa hoa hqb hob y
  have va : endView a =
      ⟨a.params.crc, .initiator, ⟨.disconnected, 0, 0, (a.slot 0).msg, (a.slot 0).pend⟩, a.rxCursor, [], 0⟩ := by
    simp [endView, hra, hla, hba, hca, hqa, hoa]
  have vb : endView b = ⟨a.params.crc, .responder, (endView b).link, b.rxCursor, [], 0⟩ := by
    simp [endView, hrb, hcrc, hqb, hob]
  -- The initiator: the start, the SYNC Hello, the Ack and the SYNC Hello of the responder, its second copy, its Ack.
  obtain ⟨a1, ha1, va1⟩ := endView_handshakeStart now va
  obtain ⟨a2, ha2, va2⟩ := sends_sync va1
  have va3 := endView_receiveAck va2
  have va4 := endView_receiveSync_initiator va3
  obtain ⟨_, a5, ha5, va5⟩ := sends_secondCopy va4
  obtain ⟨a6, ha6, va6⟩ := sends_ack va5
  -- The responder: the SYNC Hello of the initiator, its Ack and the second copy, its SYNC Hello, the Ack of the initiator.
  have vb1 := endView_receiveSync_responder vb
  obtain ⟨b2, hb2, vb2⟩ := sends_ack vb1
  obtain ⟨_, b3, hb3, vb3⟩ := sends_secondCopy vb2
  obtain ⟨b4, hb4, vb4⟩ := sends_sync vb3
  have vb5 := endView_receiveAck vb4
  have hrun : y = ⟨a6, receiveMessage 0 (.ack 0) b4, [], []⟩ :=
    (run_tick ⟨a, b, [], []⟩ .a ha1 _).trans <|
    (run_send_arrive ⟨a1, b, [], []⟩ .a ha2 hcrc.symm rfl _).trans <|
    (run_send_arrive ⟨a2, _, [], []⟩ .b hb2 (congrArg EndView.crc va2) rfl _).trans <|
    (run_send_lose ⟨_, b2, [], []⟩ .b hb3 rfl _).trans <|
    (run_send_arrive ⟨_, b3, [], []⟩ .b hb4 (congrArg EndView.crc va3) rfl _).trans <|
    (run_send_lose ⟨_, b4, [], []⟩ .a ha5 rfl _).trans <|
    (run_send_arrive ⟨a5, b4, [], []⟩ .a ha6 (congrArg EndView.crc vb4) rfl _)
  obtain ⟨hla, hba, hca, -, -⟩ := window_of_endView va6
  obtain ⟨hlb, hbb, hcb, -, -⟩ := window_of_endView vb5
  rw [hrun]
  exact ⟨hla, hlb, hba, hbb, hca, hcb, congrArg EndView.rxCursor va6, congrArg EndView.rxCursor vb5⟩

end Sys2Proof.Machine

/-! ## The family of the exceptions: a step is stopped by nothing but its configuration (60_exceptions.md R207) -/

namespace Sys2Proof.Machine

/-- A configuration that 00_scope.md R11 admits lets every step end in a next state: waiting, running or discarding. -/
theorem step_goes_on {s : State} (hok : s.params.ok = true) : ∃ t, step s = .next t := by
  cases hp : s.pending with
  | nil => exact ⟨s, step_of_nil hok hp⟩
  | cons r rest =>
    cases hd : decodeInput r with
    | ok i =>
      rw [step_of_decoded hok hp hd]
      exact exec_goes_on i _
    | error e => exact ⟨_, step_of_undecodable hok hp hd⟩

/-- Settles O13. -/
theorem stepAlwaysGoesOn : Obligations.StepAlwaysGoesOn := by
  intro s
  cases hok : s.params.ok with
  | true => exact .inl ⟨rfl, step_goes_on hok⟩
  | false => exact .inr ⟨rfl, step_of_badParams (Bool.eq_false_iff.mp hok)⟩

end Sys2Proof.Machine

/-! ## The family of the reset and the hazards: what RESET leaves, and the full window's misread Ack (70_reset_and_hazards.md) -/

namespace Sys2Proof.Machine

/-! ### RESET (70_reset_and_hazards.md R230) -/

/-- Settles O15: RESET's writes are the fields listed, and every slot is one never pushed. -/
theorem resetSetsEveryField : Obligations.ResetSetsEveryField :=
  fun b s => ⟨resetBlock b s, rfl, rfl, rfl, rfl, rfl, rfl, fun i => congrArg Slot.pend (resetBlock_slot b s i),
    rfl, rfl, rfl, rfl, rfl, rfl, rfl, rfl, rfl, rfl, rfl⟩

theorem Agree.refl (s : State) : Agree s s := by
  constructor <;> intros <;> rfl

/-- What RESET keeps are the parameters and the host's inputs: with those of `State.reset`, it ends in `State.reset` itself. -/
theorem resetBlock_eq_reset {s : State} (hparams : s.params = Params.default) (hpending : s.pending = []) :
    resetBlock 0 s = State.reset := by
  rw [resetBlock, hparams, hpending]
  rfl

/-- Settles O16: also the bits no rule reads are those of `State.reset`. -/
theorem resetStateIsAfterReset : Obligations.ResetStateIsAfterReset :=
  fun _ hparams hpending =>
    ⟨State.reset, congrArg Host.Outcome.next (resetBlock_eq_reset hparams hpending), Agree.refl State.reset⟩

/-! ### The full window (70_reset_and_hazards.md R236, R237) -/

/-- `tw_base - 1` lies at the last offset of the window. -/
theorem offset_base_sub_one (s : State) : offset s (s.twBase - 1) = 31 := by
  rw [offset]
  bv_omega

theorem offset_le_base_sub_one (s : State) (i : Sid) : offset s i ≤ offset s (s.twBase - 1) := by
  rw [offset_base_sub_one]
  bv_omega

/-- In a full window every sid is outstanding, also the one before `tw_base`: the misreading. -/
theorem outstanding_of_full {s : State} (hc : s.twCount = 32) (i : Sid) : outstanding s i = true := by
  rw [outstanding_iff, hc]
  exact (i - s.twBase).isLt

/-- Retiring a full window through its last slot empties it and brings `tw_base` round to where it was. -/
theorem retireThrough_full {s : State} (hc : s.twCount = 32) :
    (retireThrough (s.twBase - 1) s).twCount = 0 ∧ (retireThrough (s.twBase - 1) s).twBase = s.twBase := by
  rw [retireThrough_twCount, retireThrough_twBase, offset_base_sub_one, hc]
  exact ⟨by decide, BitVec.sub_add_cancel _ _⟩

theorem retireThrough_base_sub_one_pend (s : State) (i : Sid) : ((retireThrough (s.twBase - 1) s).slot i).pend = false := by
  rw [retireThrough_slot, if_pos (offset_le_base_sub_one s i)]

/-- Settles O35: the Ack names an outstanding sid, the last one, and the retirement through it is of the whole window. -/
theorem fullWindowMisreadsNothingNew : Obligations.FullWindowMisreadsNothingNew := by
  intro sid s hl hc
  have hup : s.linkState ≠ .disconnected := by rw [hl]; nofun
  obtain ⟨hcount, hbase⟩ := retireThrough_full hc
  exact ⟨_, congrArg Host.Outcome.next (receiveAck_of_outstanding hup (outstanding_of_full hc _)), rfl, hcount, hbase,
    fun i => ⟨outstanding_of_count_zero hcount i, retireThrough_base_sub_one_pend s i⟩⟩

end Sys2Proof.Machine
